-- ==== Sys2Proof/Word.lean ====
section
/-! DEFINITION. The word types of the 65816 core (spec R6, R7): bytes, 16-bit registers and offsets, 24-bit bus addresses. -/

namespace Sys2Proof

/-- A byte: the width of the data bus (R7). -/
abbrev Byte := BitVec 8

/-- A 16-bit register, offset or operand (R7). -/
abbrev Word := BitVec 16

/-- A 24-bit bus address, bank in bits 23..16 and offset in bits 15..0 (R6). -/
abbrev Addr := BitVec 24

end Sys2Proof
end

