-- ==== Sys2Proof/Syntax.lean ====
section
/-! DEFINITION. The instructions: one constructor per row of the opcode table (spec R120 to R128), grouped by instruction
file; the families whose instructions carry no operand come last (Lean compiles no constructor with fields past the 245th).
A constructor carries its operand fields as R123 assembles them. -/

namespace Sys2Proof

/-- An immediate whose width follows m or x (R124): one byte or two. -/
inductive Imm where
  | b8  (v : Byte)
  | b16 (v : Word)
deriving DecidableEq, Repr

/-- The immediate as a 16-bit value, zero-extended (R123). -/
def Imm.value : Imm → Word
  | .b8 v  => v.setWidth 16
  | .b16 v => v

/-- The 256 instructions. Operand letters are those of R122: `d` direct-page offset, `n` stack offset, `a` absolute
offset, `al` long address, `r` and `rl` relative displacements, `t` and `u` destination and source bank, `sig` a byte
that is fetched and not used, `v` and `b` immediates. -/
inductive Instr where
  -- 41_load_store.md
  /-- LDA (d,X), opcode 0xA1 (R200, R165) -/
  | ldaDpIndX (d : Byte)
  /-- LDA d,S, opcode 0xA3 (R200, R174) -/
  | ldaSr (n : Byte)
  /-- LDA d, opcode 0xA5 (R200, R161) -/
  | ldaDp (d : Byte)
  /-- LDA [d], opcode 0xA7 (R200, R167) -/
  | ldaDpIndL (d : Byte)
  /-- LDA #const, opcode 0xA9 (R200, R160) -/
  | ldaImm (v : Imm)
  /-- LDA a, opcode 0xAD (R200, R169) -/
  | ldaAbs (a : Word)
  /-- LDA al, opcode 0xAF (R200, R172) -/
  | ldaAbsL (al : Addr)
  /-- LDA (d),Y, opcode 0xB1 (R200, R166) -/
  | ldaDpIndY (d : Byte)
  /-- LDA (d), opcode 0xB2 (R200, R164) -/
  | ldaDpInd (d : Byte)
  /-- LDA (d,S),Y, opcode 0xB3 (R200, R175) -/
  | ldaSrIndY (n : Byte)
  /-- LDA d,X, opcode 0xB5 (R200, R162) -/
  | ldaDpX (d : Byte)
  /-- LDA [d],Y, opcode 0xB7 (R200, R168) -/
  | ldaDpIndLY (d : Byte)
  /-- LDA a,Y, opcode 0xB9 (R200, R171) -/
  | ldaAbsY (a : Word)
  /-- LDA a,X, opcode 0xBD (R200, R170) -/
  | ldaAbsX (a : Word)
  /-- LDA al,X, opcode 0xBF (R200, R173) -/
  | ldaAbsLX (al : Addr)
  /-- LDX #const, opcode 0xA2 (R201, R160) -/
  | ldxImm (v : Imm)
  /-- LDX d, opcode 0xA6 (R201, R161) -/
  | ldxDp (d : Byte)
  /-- LDX a, opcode 0xAE (R201, R169) -/
  | ldxAbs (a : Word)
  /-- LDX d,Y, opcode 0xB6 (R201, R163) -/
  | ldxDpY (d : Byte)
  /-- LDX a,Y, opcode 0xBE (R201, R171) -/
  | ldxAbsY (a : Word)
  /-- LDY #const, opcode 0xA0 (R202, R160) -/
  | ldyImm (v : Imm)
  /-- LDY d, opcode 0xA4 (R202, R161) -/
  | ldyDp (d : Byte)
  /-- LDY a, opcode 0xAC (R202, R169) -/
  | ldyAbs (a : Word)
  /-- LDY d,X, opcode 0xB4 (R202, R162) -/
  | ldyDpX (d : Byte)
  /-- LDY a,X, opcode 0xBC (R202, R170) -/
  | ldyAbsX (a : Word)
  /-- STA (d,X), opcode 0x81 (R203, R165) -/
  | staDpIndX (d : Byte)
  /-- STA d,S, opcode 0x83 (R203, R174) -/
  | staSr (n : Byte)
  /-- STA d, opcode 0x85 (R203, R161) -/
  | staDp (d : Byte)
  /-- STA [d], opcode 0x87 (R203, R167) -/
  | staDpIndL (d : Byte)
  /-- STA a, opcode 0x8D (R203, R169) -/
  | staAbs (a : Word)
  /-- STA al, opcode 0x8F (R203, R172) -/
  | staAbsL (al : Addr)
  /-- STA (d),Y, opcode 0x91 (R203, R166) -/
  | staDpIndY (d : Byte)
  /-- STA (d), opcode 0x92 (R203, R164) -/
  | staDpInd (d : Byte)
  /-- STA (d,S),Y, opcode 0x93 (R203, R175) -/
  | staSrIndY (n : Byte)
  /-- STA d,X, opcode 0x95 (R203, R162) -/
  | staDpX (d : Byte)
  /-- STA [d],Y, opcode 0x97 (R203, R168) -/
  | staDpIndLY (d : Byte)
  /-- STA a,Y, opcode 0x99 (R203, R171) -/
  | staAbsY (a : Word)
  /-- STA a,X, opcode 0x9D (R203, R170) -/
  | staAbsX (a : Word)
  /-- STA al,X, opcode 0x9F (R203, R173) -/
  | staAbsLX (al : Addr)
  /-- STX d, opcode 0x86 (R204, R161) -/
  | stxDp (d : Byte)
  /-- STX a, opcode 0x8E (R204, R169) -/
  | stxAbs (a : Word)
  /-- STX d,Y, opcode 0x96 (R204, R163) -/
  | stxDpY (d : Byte)
  /-- STY d, opcode 0x84 (R205, R161) -/
  | styDp (d : Byte)
  /-- STY a, opcode 0x8C (R205, R169) -/
  | styAbs (a : Word)
  /-- STY d,X, opcode 0x94 (R205, R162) -/
  | styDpX (d : Byte)
  /-- STZ d, opcode 0x64 (R206, R161) -/
  | stzDp (d : Byte)
  /-- STZ d,X, opcode 0x74 (R206, R162) -/
  | stzDpX (d : Byte)
  /-- STZ a, opcode 0x9C (R206, R169) -/
  | stzAbs (a : Word)
  /-- STZ a,X, opcode 0x9E (R206, R170) -/
  | stzAbsX (a : Word)
  -- 44_arithmetic.md
  /-- ADC (d,X), opcode 0x61 (R270, R165) -/
  | adcDpIndX (d : Byte)
  /-- ADC d,S, opcode 0x63 (R270, R174) -/
  | adcSr (n : Byte)
  /-- ADC d, opcode 0x65 (R270, R161) -/
  | adcDp (d : Byte)
  /-- ADC [d], opcode 0x67 (R270, R167) -/
  | adcDpIndL (d : Byte)
  /-- ADC #const, opcode 0x69 (R270, R160) -/
  | adcImm (v : Imm)
  /-- ADC a, opcode 0x6D (R270, R169) -/
  | adcAbs (a : Word)
  /-- ADC al, opcode 0x6F (R270, R172) -/
  | adcAbsL (al : Addr)
  /-- ADC (d),Y, opcode 0x71 (R270, R166) -/
  | adcDpIndY (d : Byte)
  /-- ADC (d), opcode 0x72 (R270, R164) -/
  | adcDpInd (d : Byte)
  /-- ADC (d,S),Y, opcode 0x73 (R270, R175) -/
  | adcSrIndY (n : Byte)
  /-- ADC d,X, opcode 0x75 (R270, R162) -/
  | adcDpX (d : Byte)
  /-- ADC [d],Y, opcode 0x77 (R270, R168) -/
  | adcDpIndLY (d : Byte)
  /-- ADC a,Y, opcode 0x79 (R270, R171) -/
  | adcAbsY (a : Word)
  /-- ADC a,X, opcode 0x7D (R270, R170) -/
  | adcAbsX (a : Word)
  /-- ADC al,X, opcode 0x7F (R270, R173) -/
  | adcAbsLX (al : Addr)
  /-- SBC (d,X), opcode 0xE1 (R271, R165) -/
  | sbcDpIndX (d : Byte)
  /-- SBC d,S, opcode 0xE3 (R271, R174) -/
  | sbcSr (n : Byte)
  /-- SBC d, opcode 0xE5 (R271, R161) -/
  | sbcDp (d : Byte)
  /-- SBC [d], opcode 0xE7 (R271, R167) -/
  | sbcDpIndL (d : Byte)
  /-- SBC #const, opcode 0xE9 (R271, R160) -/
  | sbcImm (v : Imm)
  /-- SBC a, opcode 0xED (R271, R169) -/
  | sbcAbs (a : Word)
  /-- SBC al, opcode 0xEF (R271, R172) -/
  | sbcAbsL (al : Addr)
  /-- SBC (d),Y, opcode 0xF1 (R271, R166) -/
  | sbcDpIndY (d : Byte)
  /-- SBC (d), opcode 0xF2 (R271, R164) -/
  | sbcDpInd (d : Byte)
  /-- SBC (d,S),Y, opcode 0xF3 (R271, R175) -/
  | sbcSrIndY (n : Byte)
  /-- SBC d,X, opcode 0xF5 (R271, R162) -/
  | sbcDpX (d : Byte)
  /-- SBC [d],Y, opcode 0xF7 (R271, R168) -/
  | sbcDpIndLY (d : Byte)
  /-- SBC a,Y, opcode 0xF9 (R271, R171) -/
  | sbcAbsY (a : Word)
  /-- SBC a,X, opcode 0xFD (R271, R170) -/
  | sbcAbsX (a : Word)
  /-- SBC al,X, opcode 0xFF (R271, R173) -/
  | sbcAbsLX (al : Addr)
  /-- CMP (d,X), opcode 0xC1 (R272, R165) -/
  | cmpDpIndX (d : Byte)
  /-- CMP d,S, opcode 0xC3 (R272, R174) -/
  | cmpSr (n : Byte)
  /-- CMP d, opcode 0xC5 (R272, R161) -/
  | cmpDp (d : Byte)
  /-- CMP [d], opcode 0xC7 (R272, R167) -/
  | cmpDpIndL (d : Byte)
  /-- CMP #const, opcode 0xC9 (R272, R160) -/
  | cmpImm (v : Imm)
  /-- CMP a, opcode 0xCD (R272, R169) -/
  | cmpAbs (a : Word)
  /-- CMP al, opcode 0xCF (R272, R172) -/
  | cmpAbsL (al : Addr)
  /-- CMP (d),Y, opcode 0xD1 (R272, R166) -/
  | cmpDpIndY (d : Byte)
  /-- CMP (d), opcode 0xD2 (R272, R164) -/
  | cmpDpInd (d : Byte)
  /-- CMP (d,S),Y, opcode 0xD3 (R272, R175) -/
  | cmpSrIndY (n : Byte)
  /-- CMP d,X, opcode 0xD5 (R272, R162) -/
  | cmpDpX (d : Byte)
  /-- CMP [d],Y, opcode 0xD7 (R272, R168) -/
  | cmpDpIndLY (d : Byte)
  /-- CMP a,Y, opcode 0xD9 (R272, R171) -/
  | cmpAbsY (a : Word)
  /-- CMP a,X, opcode 0xDD (R272, R170) -/
  | cmpAbsX (a : Word)
  /-- CMP al,X, opcode 0xDF (R272, R173) -/
  | cmpAbsLX (al : Addr)
  /-- CPX #const, opcode 0xE0 (R273, R160) -/
  | cpxImm (v : Imm)
  /-- CPX d, opcode 0xE4 (R273, R161) -/
  | cpxDp (d : Byte)
  /-- CPX a, opcode 0xEC (R273, R169) -/
  | cpxAbs (a : Word)
  /-- CPY #const, opcode 0xC0 (R274, R160) -/
  | cpyImm (v : Imm)
  /-- CPY d, opcode 0xC4 (R274, R161) -/
  | cpyDp (d : Byte)
  /-- CPY a, opcode 0xCC (R274, R169) -/
  | cpyAbs (a : Word)
  /-- INC A, opcode 0x1A (R275, R150) -/
  | incAcc
  /-- INC d, opcode 0xE6 (R275, R161) -/
  | incDp (d : Byte)
  /-- INC a, opcode 0xEE (R275, R169) -/
  | incAbs (a : Word)
  /-- INC d,X, opcode 0xF6 (R275, R162) -/
  | incDpX (d : Byte)
  /-- INC a,X, opcode 0xFE (R275, R170) -/
  | incAbsX (a : Word)
  /-- INX, opcode 0xE8 (R276, R150) -/
  | inx
  /-- INY, opcode 0xC8 (R277, R150) -/
  | iny
  /-- DEC A, opcode 0x3A (R278, R150) -/
  | decAcc
  /-- DEC d, opcode 0xC6 (R278, R161) -/
  | decDp (d : Byte)
  /-- DEC a, opcode 0xCE (R278, R169) -/
  | decAbs (a : Word)
  /-- DEC d,X, opcode 0xD6 (R278, R162) -/
  | decDpX (d : Byte)
  /-- DEC a,X, opcode 0xDE (R278, R170) -/
  | decAbsX (a : Word)
  /-- DEX, opcode 0xCA (R279, R150) -/
  | dex
  /-- DEY, opcode 0x88 (R280, R150) -/
  | dey
  -- 45_logic_shift.md
  /-- AND (d,X), opcode 0x21 (R300, R165) -/
  | andDpIndX (d : Byte)
  /-- AND d,S, opcode 0x23 (R300, R174) -/
  | andSr (n : Byte)
  /-- AND d, opcode 0x25 (R300, R161) -/
  | andDp (d : Byte)
  /-- AND [d], opcode 0x27 (R300, R167) -/
  | andDpIndL (d : Byte)
  /-- AND #const, opcode 0x29 (R300, R160) -/
  | andImm (v : Imm)
  /-- AND a, opcode 0x2D (R300, R169) -/
  | andAbs (a : Word)
  /-- AND al, opcode 0x2F (R300, R172) -/
  | andAbsL (al : Addr)
  /-- AND (d),Y, opcode 0x31 (R300, R166) -/
  | andDpIndY (d : Byte)
  /-- AND (d), opcode 0x32 (R300, R164) -/
  | andDpInd (d : Byte)
  /-- AND (d,S),Y, opcode 0x33 (R300, R175) -/
  | andSrIndY (n : Byte)
  /-- AND d,X, opcode 0x35 (R300, R162) -/
  | andDpX (d : Byte)
  /-- AND [d],Y, opcode 0x37 (R300, R168) -/
  | andDpIndLY (d : Byte)
  /-- AND a,Y, opcode 0x39 (R300, R171) -/
  | andAbsY (a : Word)
  /-- AND a,X, opcode 0x3D (R300, R170) -/
  | andAbsX (a : Word)
  /-- AND al,X, opcode 0x3F (R300, R173) -/
  | andAbsLX (al : Addr)
  /-- ORA (d,X), opcode 0x01 (R301, R165) -/
  | oraDpIndX (d : Byte)
  /-- ORA d,S, opcode 0x03 (R301, R174) -/
  | oraSr (n : Byte)
  /-- ORA d, opcode 0x05 (R301, R161) -/
  | oraDp (d : Byte)
  /-- ORA [d], opcode 0x07 (R301, R167) -/
  | oraDpIndL (d : Byte)
  /-- ORA #const, opcode 0x09 (R301, R160) -/
  | oraImm (v : Imm)
  /-- ORA a, opcode 0x0D (R301, R169) -/
  | oraAbs (a : Word)
  /-- ORA al, opcode 0x0F (R301, R172) -/
  | oraAbsL (al : Addr)
  /-- ORA (d),Y, opcode 0x11 (R301, R166) -/
  | oraDpIndY (d : Byte)
  /-- ORA (d), opcode 0x12 (R301, R164) -/
  | oraDpInd (d : Byte)
  /-- ORA (d,S),Y, opcode 0x13 (R301, R175) -/
  | oraSrIndY (n : Byte)
  /-- ORA d,X, opcode 0x15 (R301, R162) -/
  | oraDpX (d : Byte)
  /-- ORA [d],Y, opcode 0x17 (R301, R168) -/
  | oraDpIndLY (d : Byte)
  /-- ORA a,Y, opcode 0x19 (R301, R171) -/
  | oraAbsY (a : Word)
  /-- ORA a,X, opcode 0x1D (R301, R170) -/
  | oraAbsX (a : Word)
  /-- ORA al,X, opcode 0x1F (R301, R173) -/
  | oraAbsLX (al : Addr)
  /-- EOR (d,X), opcode 0x41 (R302, R165) -/
  | eorDpIndX (d : Byte)
  /-- EOR d,S, opcode 0x43 (R302, R174) -/
  | eorSr (n : Byte)
  /-- EOR d, opcode 0x45 (R302, R161) -/
  | eorDp (d : Byte)
  /-- EOR [d], opcode 0x47 (R302, R167) -/
  | eorDpIndL (d : Byte)
  /-- EOR #const, opcode 0x49 (R302, R160) -/
  | eorImm (v : Imm)
  /-- EOR a, opcode 0x4D (R302, R169) -/
  | eorAbs (a : Word)
  /-- EOR al, opcode 0x4F (R302, R172) -/
  | eorAbsL (al : Addr)
  /-- EOR (d),Y, opcode 0x51 (R302, R166) -/
  | eorDpIndY (d : Byte)
  /-- EOR (d), opcode 0x52 (R302, R164) -/
  | eorDpInd (d : Byte)
  /-- EOR (d,S),Y, opcode 0x53 (R302, R175) -/
  | eorSrIndY (n : Byte)
  /-- EOR d,X, opcode 0x55 (R302, R162) -/
  | eorDpX (d : Byte)
  /-- EOR [d],Y, opcode 0x57 (R302, R168) -/
  | eorDpIndLY (d : Byte)
  /-- EOR a,Y, opcode 0x59 (R302, R171) -/
  | eorAbsY (a : Word)
  /-- EOR a,X, opcode 0x5D (R302, R170) -/
  | eorAbsX (a : Word)
  /-- EOR al,X, opcode 0x5F (R302, R173) -/
  | eorAbsLX (al : Addr)
  /-- BIT d, opcode 0x24 (R303, R161) -/
  | bitDp (d : Byte)
  /-- BIT a, opcode 0x2C (R303, R169) -/
  | bitAbs (a : Word)
  /-- BIT d,X, opcode 0x34 (R303, R162) -/
  | bitDpX (d : Byte)
  /-- BIT a,X, opcode 0x3C (R303, R170) -/
  | bitAbsX (a : Word)
  /-- BIT #const, opcode 0x89 (R303, R160) -/
  | bitImm (v : Imm)
  /-- TSB d, opcode 0x04 (R304, R161) -/
  | tsbDp (d : Byte)
  /-- TSB a, opcode 0x0C (R304, R169) -/
  | tsbAbs (a : Word)
  /-- TRB d, opcode 0x14 (R305, R161) -/
  | trbDp (d : Byte)
  /-- TRB a, opcode 0x1C (R305, R169) -/
  | trbAbs (a : Word)
  /-- ASL d, opcode 0x06 (R306, R161) -/
  | aslDp (d : Byte)
  /-- ASL A, opcode 0x0A (R306, R150) -/
  | aslAcc
  /-- ASL a, opcode 0x0E (R306, R169) -/
  | aslAbs (a : Word)
  /-- ASL d,X, opcode 0x16 (R306, R162) -/
  | aslDpX (d : Byte)
  /-- ASL a,X, opcode 0x1E (R306, R170) -/
  | aslAbsX (a : Word)
  /-- LSR d, opcode 0x46 (R307, R161) -/
  | lsrDp (d : Byte)
  /-- LSR A, opcode 0x4A (R307, R150) -/
  | lsrAcc
  /-- LSR a, opcode 0x4E (R307, R169) -/
  | lsrAbs (a : Word)
  /-- LSR d,X, opcode 0x56 (R307, R162) -/
  | lsrDpX (d : Byte)
  /-- LSR a,X, opcode 0x5E (R307, R170) -/
  | lsrAbsX (a : Word)
  /-- ROL d, opcode 0x26 (R308, R161) -/
  | rolDp (d : Byte)
  /-- ROL A, opcode 0x2A (R308, R150) -/
  | rolAcc
  /-- ROL a, opcode 0x2E (R308, R169) -/
  | rolAbs (a : Word)
  /-- ROL d,X, opcode 0x36 (R308, R162) -/
  | rolDpX (d : Byte)
  /-- ROL a,X, opcode 0x3E (R308, R170) -/
  | rolAbsX (a : Word)
  /-- ROR d, opcode 0x66 (R309, R161) -/
  | rorDp (d : Byte)
  /-- ROR A, opcode 0x6A (R309, R150) -/
  | rorAcc
  /-- ROR a, opcode 0x6E (R309, R169) -/
  | rorAbs (a : Word)
  /-- ROR d,X, opcode 0x76 (R309, R162) -/
  | rorDpX (d : Byte)
  /-- ROR a,X, opcode 0x7E (R309, R170) -/
  | rorAbsX (a : Word)
  -- 46_control.md
  /-- BCC r, opcode 0x90 (R331, R176) -/
  | bcc (r : Byte)
  /-- BCS r, opcode 0xB0 (R332, R176) -/
  | bcs (r : Byte)
  /-- BEQ r, opcode 0xF0 (R333, R176) -/
  | beq (r : Byte)
  /-- BNE r, opcode 0xD0 (R334, R176) -/
  | bne (r : Byte)
  /-- BMI r, opcode 0x30 (R335, R176) -/
  | bmi (r : Byte)
  /-- BPL r, opcode 0x10 (R336, R176) -/
  | bpl (r : Byte)
  /-- BVC r, opcode 0x50 (R337, R176) -/
  | bvc (r : Byte)
  /-- BVS r, opcode 0x70 (R338, R176) -/
  | bvs (r : Byte)
  /-- BRA r, opcode 0x80 (R339, R176) -/
  | bra (r : Byte)
  /-- BRL rl, opcode 0x82 (R340, R177) -/
  | brl (rl : Word)
  /-- JMP a, opcode 0x4C (R341, R182) -/
  | jmpAbs (a : Word)
  /-- JMP (a), opcode 0x6C (R342, R178) -/
  | jmpInd (a : Word)
  /-- JMP (a,X), opcode 0x7C (R343, R179) -/
  | jmpIndX (a : Word)
  /-- JML al, opcode 0x5C (R344, R182) -/
  | jmlAbsL (al : Addr)
  /-- JML [a], opcode 0xDC (R345, R180) -/
  | jmlIndL (a : Word)
  /-- JSR a, opcode 0x20 (R346, R182) -/
  | jsrAbs (a : Word)
  /-- JSR (a,X), opcode 0xFC (R348, R179) -/
  | jsrIndX (a : Word)
  /-- JSL al, opcode 0x22 (R347, R182) -/
  | jsl (al : Addr)
  /-- RTL, opcode 0x6B (R349, R150) -/
  | rtl
  /-- RTS, opcode 0x60 (R350, R150) -/
  | rts
  -- 48_system.md
  /-- BRK #sig, opcode 0x00 (R390, R160) -/
  | brk (sig : Byte)
  /-- COP #sig, opcode 0x02 (R391, R160) -/
  | cop (sig : Byte)
  /-- NOP, opcode 0xEA (R392, R150) -/
  | nop
  /-- WDM #byte, opcode 0x42 (R393, R160) -/
  | wdm (sig : Byte)
  /-- RTI, opcode 0x40 (R395, R150) -/
  | rti
  /-- WAI, opcode 0xCB (R396, R150) -/
  | wai
  /-- STP, opcode 0xDB (R397, R150) -/
  | stp
  /-- MVN srcbk,dstbk, opcode 0x54 (R400, R181) -/
  | mvn (t : Byte) (u : Byte)
  /-- MVP srcbk,dstbk, opcode 0x44 (R401, R181) -/
  | mvp (t : Byte) (u : Byte)
  -- 43_stack.md
  /-- PHA, opcode 0x48 (R240, R150) -/
  | pha
  /-- PHX, opcode 0xDA (R241, R150) -/
  | phx
  /-- PHY, opcode 0x5A (R242, R150) -/
  | phy
  /-- PHP, opcode 0x08 (R243, R150) -/
  | php
  /-- PHB, opcode 0x8B (R244, R150) -/
  | phb
  /-- PHK, opcode 0x4B (R245, R150) -/
  | phk
  /-- PHD, opcode 0x0B (R246, R150) -/
  | phd
  /-- PEA addr, opcode 0xF4 (R247, R160) -/
  | pea (v : Word)
  /-- PEI (d), opcode 0xD4 (R248, R183) -/
  | pei (d : Byte)
  /-- PER rl, opcode 0x62 (R249, R177) -/
  | per (rl : Word)
  /-- PLX, opcode 0xFA (R250, R150) -/
  | plx
  /-- PLY, opcode 0x7A (R251, R150) -/
  | ply
  /-- PLB, opcode 0xAB (R252, R150) -/
  | plb
  /-- PLD, opcode 0x2B (R253, R150) -/
  | pld
  /-- PLA, opcode 0x68 (R254, R150) -/
  | pla
  /-- PLP, opcode 0x28 (R255, R150) -/
  | plp
  -- 47_flags_mode.md
  /-- CLC, opcode 0x18 (R370, R150) -/
  | clc
  /-- SEC, opcode 0x38 (R371, R150) -/
  | sec
  /-- CLI, opcode 0x58 (R372, R150) -/
  | cli
  /-- SEI, opcode 0x78 (R373, R150) -/
  | sei
  /-- CLD, opcode 0xD8 (R374, R150) -/
  | cld
  /-- SED, opcode 0xF8 (R375, R150) -/
  | sed
  /-- CLV, opcode 0xB8 (R376, R150) -/
  | clv
  /-- REP #const, opcode 0xC2 (R377, R160) -/
  | rep (b : Byte)
  /-- SEP #const, opcode 0xE2 (R378, R160) -/
  | sep (b : Byte)
  /-- XCE, opcode 0xFB (R380, R150) -/
  | xce
  -- 42_transfer.md
  /-- TAX, opcode 0xAA (R220, R150) -/
  | tax
  /-- TAY, opcode 0xA8 (R221, R150) -/
  | tay
  /-- TXA, opcode 0x8A (R222, R150) -/
  | txa
  /-- TYA, opcode 0x98 (R223, R150) -/
  | tya
  /-- TXY, opcode 0x9B (R224, R150) -/
  | txy
  /-- TYX, opcode 0xBB (R225, R150) -/
  | tyx
  /-- TSX, opcode 0xBA (R226, R150) -/
  | tsx
  /-- TXS, opcode 0x9A (R227, R150) -/
  | txs
  /-- TCS, opcode 0x1B (R228, R150) -/
  | tcs
  /-- TCD, opcode 0x5B (R229, R150) -/
  | tcd
  /-- TDC, opcode 0x7B (R230, R150) -/
  | tdc
  /-- TSC, opcode 0x3B (R231, R150) -/
  | tsc
  /-- XBA, opcode 0xEB (R232, R150) -/
  | xba
deriving DecidableEq, Repr

end Sys2Proof
end

