-- ==== Sys2Proof/WellFormed.lean ====
section
/-! DEFINITION. Well-formed instructions: the width of an immediate is the one m or x selects (spec R124). Every other
operand value of every other constructor is a legal instruction (R128). -/

namespace Sys2Proof

/-- The width flags in force when an instruction is decoded (R124). -/
structure Widths where
  m : Bool
  x : Bool
deriving DecidableEq, Repr

/-- The immediate is one byte when the flag is set and two when it is clear (R124). -/
def Imm.fits (flag : Bool) : Imm → Bool
  | .b8 _  => flag
  | .b16 _ => !flag

/-- The instruction can stand in a program that runs with these widths (R124, R125). -/
def Instr.wf (w : Widths) : Instr → Bool
  | .ldaImm v | .adcImm v | .sbcImm v | .cmpImm v | .andImm v | .oraImm v | .eorImm v | .bitImm v => v.fits w.m
  | .ldxImm v | .ldyImm v | .cpxImm v | .cpyImm v => v.fits w.x
  | .ldaDpIndX _ | .ldaSr _ | .ldaDp _ | .ldaDpIndL _ | .ldaAbs _ | .ldaAbsL _ | .ldaDpIndY _ | .ldaDpInd _
  | .ldaSrIndY _ | .ldaDpX _ | .ldaDpIndLY _ | .ldaAbsY _ | .ldaAbsX _ | .ldaAbsLX _ | .ldxDp _ | .ldxAbs _
  | .ldxDpY _ | .ldxAbsY _ | .ldyDp _ | .ldyAbs _ | .ldyDpX _ | .ldyAbsX _ | .staDpIndX _ | .staSr _ | .staDp _
  | .staDpIndL _ | .staAbs _ | .staAbsL _ | .staDpIndY _ | .staDpInd _ | .staSrIndY _ | .staDpX _ | .staDpIndLY _
  | .staAbsY _ | .staAbsX _ | .staAbsLX _ | .stxDp _ | .stxAbs _ | .stxDpY _ | .styDp _ | .styAbs _ | .styDpX _
  | .stzDp _ | .stzDpX _ | .stzAbs _ | .stzAbsX _ | .adcDpIndX _ | .adcSr _ | .adcDp _ | .adcDpIndL _ | .adcAbs _
  | .adcAbsL _ | .adcDpIndY _ | .adcDpInd _ | .adcSrIndY _ | .adcDpX _ | .adcDpIndLY _ | .adcAbsY _ | .adcAbsX _
  | .adcAbsLX _ | .sbcDpIndX _ | .sbcSr _ | .sbcDp _ | .sbcDpIndL _ | .sbcAbs _ | .sbcAbsL _ | .sbcDpIndY _
  | .sbcDpInd _ | .sbcSrIndY _ | .sbcDpX _ | .sbcDpIndLY _ | .sbcAbsY _ | .sbcAbsX _ | .sbcAbsLX _ | .cmpDpIndX _
  | .cmpSr _ | .cmpDp _ | .cmpDpIndL _ | .cmpAbs _ | .cmpAbsL _ | .cmpDpIndY _ | .cmpDpInd _ | .cmpSrIndY _
  | .cmpDpX _ | .cmpDpIndLY _ | .cmpAbsY _ | .cmpAbsX _ | .cmpAbsLX _ | .cpxDp _ | .cpxAbs _ | .cpyDp _ | .cpyAbs _
  | .incAcc | .incDp _ | .incAbs _ | .incDpX _ | .incAbsX _ | .inx | .iny | .decAcc | .decDp _ | .decAbs _
  | .decDpX _ | .decAbsX _ | .dex | .dey | .andDpIndX _ | .andSr _ | .andDp _ | .andDpIndL _ | .andAbs _ | .andAbsL _
  | .andDpIndY _ | .andDpInd _ | .andSrIndY _ | .andDpX _ | .andDpIndLY _ | .andAbsY _ | .andAbsX _ | .andAbsLX _
  | .oraDpIndX _ | .oraSr _ | .oraDp _ | .oraDpIndL _ | .oraAbs _ | .oraAbsL _ | .oraDpIndY _ | .oraDpInd _
  | .oraSrIndY _ | .oraDpX _ | .oraDpIndLY _ | .oraAbsY _ | .oraAbsX _ | .oraAbsLX _ | .eorDpIndX _ | .eorSr _
  | .eorDp _ | .eorDpIndL _ | .eorAbs _ | .eorAbsL _ | .eorDpIndY _ | .eorDpInd _ | .eorSrIndY _ | .eorDpX _
  | .eorDpIndLY _ | .eorAbsY _ | .eorAbsX _ | .eorAbsLX _ | .bitDp _ | .bitAbs _ | .bitDpX _ | .bitAbsX _ | .tsbDp _
  | .tsbAbs _ | .trbDp _ | .trbAbs _ | .aslDp _ | .aslAcc | .aslAbs _ | .aslDpX _ | .aslAbsX _ | .lsrDp _ | .lsrAcc
  | .lsrAbs _ | .lsrDpX _ | .lsrAbsX _ | .rolDp _ | .rolAcc | .rolAbs _ | .rolDpX _ | .rolAbsX _ | .rorDp _ | .rorAcc
  | .rorAbs _ | .rorDpX _ | .rorAbsX _ | .bcc _ | .bcs _ | .beq _ | .bne _ | .bmi _ | .bpl _ | .bvc _ | .bvs _
  | .bra _ | .brl _ | .jmpAbs _ | .jmpInd _ | .jmpIndX _ | .jmlAbsL _ | .jmlIndL _ | .jsrAbs _ | .jsrIndX _ | .jsl _
  | .rtl | .rts | .brk _ | .cop _ | .nop | .wdm _ | .rti | .wai | .stp | .mvn _ _ | .mvp _ _ | .pha | .phx | .phy
  | .php | .phb | .phk | .phd | .pea _ | .pei _ | .per _ | .plx | .ply | .plb | .pld | .pla | .plp | .clc | .sec
  | .cli | .sei | .cld | .sed | .clv | .rep _ | .sep _ | .xce | .tax | .tay | .txa | .tya | .txy | .tyx | .tsx | .txs
  | .tcs | .tcd | .tdc | .tsc | .xba => true

end Sys2Proof
end

