-- ==== Sys2Proof/Decode.lean ====
section
/-! DEFINITION. Decoding and encoding (30_encoding.md): the operand formats, the opcode map, the decoder, total on any
bytes, and the encoder. -/

namespace Sys2Proof

/-- The operand formats of R122. -/
inductive Format where
  | imp | acc | stk | immM | immX | imm8 | sig | wdmb | imm16
  | dp | dpX | dpY | dpInd | dpIndX | dpIndY | dpIndL | dpIndLY | pei
  | sr | srIndY | rel | relL | blk
  | abs | absX | absY | absPc | absInd | absIndX | absIndL | absL | absLX | absLPc
deriving DecidableEq, Repr

/-- The number of operand bytes of a format (R122, R124, R125). -/
def Format.operandBytes (w : Widths) : Format → Nat
  | .imp | .acc | .stk => 0
  | .immM => if w.m then 1 else 2
  | .immX => if w.x then 1 else 2
  | .imm8 | .sig | .wdmb => 1
  | .dp | .dpX | .dpY | .dpInd | .dpIndX | .dpIndY | .dpIndL | .dpIndLY | .pei => 1
  | .sr | .srIndY | .rel => 1
  | .imm16 | .relL | .blk => 2
  | .abs | .absX | .absY | .absPc | .absInd | .absIndX | .absIndL => 2
  | .absL | .absLX | .absLPc => 3

/-- The number of a format's mode on WDC's list of 24 addressing modes (R131). -/
def Format.wdcMode : Format → Nat
  | .abs | .absPc => 1
  | .absIndX => 2
  | .absX => 3
  | .absY => 4
  | .absInd | .absIndL => 5
  | .absLX => 6
  | .absL | .absLPc => 7
  | .acc => 8
  | .blk => 9
  | .dpIndX => 10
  | .dpX => 11
  | .dpY => 12
  | .dpIndY => 13
  | .dpIndLY => 14
  | .dpIndL => 15
  | .dpInd => 16
  | .dp => 17
  | .immM | .immX | .imm8 => 18
  | .imp | .wdmb => 19
  | .relL => 20
  | .rel => 21
  | .stk | .sig | .imm16 | .pei => 22
  | .sr => 23
  | .srIndY => 24

/-- How an instruction is made from its operand bytes (R123). -/
inductive Maker where
  | none  (i : Instr)
  | byte  (k : Byte → Instr)
  | word  (k : Word → Instr)
  | long  (k : Addr → Instr)
  | immM  (k : Imm → Instr)
  | immX  (k : Imm → Instr)
  | block (k : Byte → Byte → Instr)

/-- One cell of the opcode map: the format and the instruction (R126). -/
structure OpcodeEntry where
  format : Format
  make   : Maker

/-- The little-endian 16-bit operand in bytes 1 and 2 (R123). -/
def operandWord : List Byte → Word
  | b1 :: b2 :: _ => b2 ++ b1
  | _ => 0

/-- The 24-bit operand in bytes 1 to 3, the bank last (R123). -/
def operandLong : List Byte → Addr
  | b1 :: b2 :: b3 :: _ => b3 ++ (b2 ++ b1 : Word)
  | _ => 0

/-- The 8-bit operand in byte 1 (R123). -/
def operandByte : List Byte → Byte
  | b1 :: _ => b1
  | _ => 0

/-- The second operand byte, BLK's source bank (R123). -/
def operandByte2 : List Byte → Byte
  | _ :: b2 :: _ => b2
  | _ => 0

/-- The immediate at the width its flag selects (R124). -/
def operandImm (flag : Bool) (bs : List Byte) : Imm := if flag then .b8 (operandByte bs) else .b16 (operandWord bs)

/-- The instruction with these operand bytes (R123). -/
def Maker.build (w : Widths) (bs : List Byte) : Maker → Instr
  | .none i  => i
  | .byte k  => k (operandByte bs)
  | .word k  => k (operandWord bs)
  | .long k  => k (operandLong bs)
  | .immM k  => k (operandImm w.m bs)
  | .immX k  => k (operandImm w.x bs)
  | .block k => k (operandByte bs) (operandByte2 bs)


/-- Row 0x0_ of the opcode map (R126). -/
def opcodeRow0 : List OpcodeEntry :=
  [⟨.sig, .byte .brk⟩, ⟨.dpIndX, .byte .oraDpIndX⟩, ⟨.sig, .byte .cop⟩, ⟨.sr, .byte .oraSr⟩,
   ⟨.dp, .byte .tsbDp⟩, ⟨.dp, .byte .oraDp⟩, ⟨.dp, .byte .aslDp⟩, ⟨.dpIndL, .byte .oraDpIndL⟩,
   ⟨.stk, .none .php⟩, ⟨.immM, .immM .oraImm⟩, ⟨.acc, .none .aslAcc⟩, ⟨.stk, .none .phd⟩,
   ⟨.abs, .word .tsbAbs⟩, ⟨.abs, .word .oraAbs⟩, ⟨.abs, .word .aslAbs⟩, ⟨.absL, .long .oraAbsL⟩]

/-- Row 0x1_ of the opcode map (R126). -/
def opcodeRow1 : List OpcodeEntry :=
  [⟨.rel, .byte .bpl⟩, ⟨.dpIndY, .byte .oraDpIndY⟩, ⟨.dpInd, .byte .oraDpInd⟩, ⟨.srIndY, .byte .oraSrIndY⟩,
   ⟨.dp, .byte .trbDp⟩, ⟨.dpX, .byte .oraDpX⟩, ⟨.dpX, .byte .aslDpX⟩, ⟨.dpIndLY, .byte .oraDpIndLY⟩,
   ⟨.imp, .none .clc⟩, ⟨.absY, .word .oraAbsY⟩, ⟨.acc, .none .incAcc⟩, ⟨.imp, .none .tcs⟩,
   ⟨.abs, .word .trbAbs⟩, ⟨.absX, .word .oraAbsX⟩, ⟨.absX, .word .aslAbsX⟩, ⟨.absLX, .long .oraAbsLX⟩]

/-- Row 0x2_ of the opcode map (R126). -/
def opcodeRow2 : List OpcodeEntry :=
  [⟨.absPc, .word .jsrAbs⟩, ⟨.dpIndX, .byte .andDpIndX⟩, ⟨.absLPc, .long .jsl⟩, ⟨.sr, .byte .andSr⟩,
   ⟨.dp, .byte .bitDp⟩, ⟨.dp, .byte .andDp⟩, ⟨.dp, .byte .rolDp⟩, ⟨.dpIndL, .byte .andDpIndL⟩,
   ⟨.stk, .none .plp⟩, ⟨.immM, .immM .andImm⟩, ⟨.acc, .none .rolAcc⟩, ⟨.stk, .none .pld⟩,
   ⟨.abs, .word .bitAbs⟩, ⟨.abs, .word .andAbs⟩, ⟨.abs, .word .rolAbs⟩, ⟨.absL, .long .andAbsL⟩]

/-- Row 0x3_ of the opcode map (R126). -/
def opcodeRow3 : List OpcodeEntry :=
  [⟨.rel, .byte .bmi⟩, ⟨.dpIndY, .byte .andDpIndY⟩, ⟨.dpInd, .byte .andDpInd⟩, ⟨.srIndY, .byte .andSrIndY⟩,
   ⟨.dpX, .byte .bitDpX⟩, ⟨.dpX, .byte .andDpX⟩, ⟨.dpX, .byte .rolDpX⟩, ⟨.dpIndLY, .byte .andDpIndLY⟩,
   ⟨.imp, .none .sec⟩, ⟨.absY, .word .andAbsY⟩, ⟨.acc, .none .decAcc⟩, ⟨.imp, .none .tsc⟩,
   ⟨.absX, .word .bitAbsX⟩, ⟨.absX, .word .andAbsX⟩, ⟨.absX, .word .rolAbsX⟩, ⟨.absLX, .long .andAbsLX⟩]

/-- Row 0x4_ of the opcode map (R126). -/
def opcodeRow4 : List OpcodeEntry :=
  [⟨.stk, .none .rti⟩, ⟨.dpIndX, .byte .eorDpIndX⟩, ⟨.wdmb, .byte .wdm⟩, ⟨.sr, .byte .eorSr⟩,
   ⟨.blk, .block .mvp⟩, ⟨.dp, .byte .eorDp⟩, ⟨.dp, .byte .lsrDp⟩, ⟨.dpIndL, .byte .eorDpIndL⟩,
   ⟨.stk, .none .pha⟩, ⟨.immM, .immM .eorImm⟩, ⟨.acc, .none .lsrAcc⟩, ⟨.stk, .none .phk⟩,
   ⟨.absPc, .word .jmpAbs⟩, ⟨.abs, .word .eorAbs⟩, ⟨.abs, .word .lsrAbs⟩, ⟨.absL, .long .eorAbsL⟩]

/-- Row 0x5_ of the opcode map (R126). -/
def opcodeRow5 : List OpcodeEntry :=
  [⟨.rel, .byte .bvc⟩, ⟨.dpIndY, .byte .eorDpIndY⟩, ⟨.dpInd, .byte .eorDpInd⟩, ⟨.srIndY, .byte .eorSrIndY⟩,
   ⟨.blk, .block .mvn⟩, ⟨.dpX, .byte .eorDpX⟩, ⟨.dpX, .byte .lsrDpX⟩, ⟨.dpIndLY, .byte .eorDpIndLY⟩,
   ⟨.imp, .none .cli⟩, ⟨.absY, .word .eorAbsY⟩, ⟨.stk, .none .phy⟩, ⟨.imp, .none .tcd⟩,
   ⟨.absLPc, .long .jmlAbsL⟩, ⟨.absX, .word .eorAbsX⟩, ⟨.absX, .word .lsrAbsX⟩, ⟨.absLX, .long .eorAbsLX⟩]

/-- Row 0x6_ of the opcode map (R126). -/
def opcodeRow6 : List OpcodeEntry :=
  [⟨.stk, .none .rts⟩, ⟨.dpIndX, .byte .adcDpIndX⟩, ⟨.relL, .word .per⟩, ⟨.sr, .byte .adcSr⟩,
   ⟨.dp, .byte .stzDp⟩, ⟨.dp, .byte .adcDp⟩, ⟨.dp, .byte .rorDp⟩, ⟨.dpIndL, .byte .adcDpIndL⟩,
   ⟨.stk, .none .pla⟩, ⟨.immM, .immM .adcImm⟩, ⟨.acc, .none .rorAcc⟩, ⟨.stk, .none .rtl⟩,
   ⟨.absInd, .word .jmpInd⟩, ⟨.abs, .word .adcAbs⟩, ⟨.abs, .word .rorAbs⟩, ⟨.absL, .long .adcAbsL⟩]

/-- Row 0x7_ of the opcode map (R126). -/
def opcodeRow7 : List OpcodeEntry :=
  [⟨.rel, .byte .bvs⟩, ⟨.dpIndY, .byte .adcDpIndY⟩, ⟨.dpInd, .byte .adcDpInd⟩, ⟨.srIndY, .byte .adcSrIndY⟩,
   ⟨.dpX, .byte .stzDpX⟩, ⟨.dpX, .byte .adcDpX⟩, ⟨.dpX, .byte .rorDpX⟩, ⟨.dpIndLY, .byte .adcDpIndLY⟩,
   ⟨.imp, .none .sei⟩, ⟨.absY, .word .adcAbsY⟩, ⟨.stk, .none .ply⟩, ⟨.imp, .none .tdc⟩,
   ⟨.absIndX, .word .jmpIndX⟩, ⟨.absX, .word .adcAbsX⟩, ⟨.absX, .word .rorAbsX⟩, ⟨.absLX, .long .adcAbsLX⟩]

/-- Row 0x8_ of the opcode map (R126). -/
def opcodeRow8 : List OpcodeEntry :=
  [⟨.rel, .byte .bra⟩, ⟨.dpIndX, .byte .staDpIndX⟩, ⟨.relL, .word .brl⟩, ⟨.sr, .byte .staSr⟩,
   ⟨.dp, .byte .styDp⟩, ⟨.dp, .byte .staDp⟩, ⟨.dp, .byte .stxDp⟩, ⟨.dpIndL, .byte .staDpIndL⟩,
   ⟨.imp, .none .dey⟩, ⟨.immM, .immM .bitImm⟩, ⟨.imp, .none .txa⟩, ⟨.stk, .none .phb⟩,
   ⟨.abs, .word .styAbs⟩, ⟨.abs, .word .staAbs⟩, ⟨.abs, .word .stxAbs⟩, ⟨.absL, .long .staAbsL⟩]

/-- Row 0x9_ of the opcode map (R126). -/
def opcodeRow9 : List OpcodeEntry :=
  [⟨.rel, .byte .bcc⟩, ⟨.dpIndY, .byte .staDpIndY⟩, ⟨.dpInd, .byte .staDpInd⟩, ⟨.srIndY, .byte .staSrIndY⟩,
   ⟨.dpX, .byte .styDpX⟩, ⟨.dpX, .byte .staDpX⟩, ⟨.dpY, .byte .stxDpY⟩, ⟨.dpIndLY, .byte .staDpIndLY⟩,
   ⟨.imp, .none .tya⟩, ⟨.absY, .word .staAbsY⟩, ⟨.imp, .none .txs⟩, ⟨.imp, .none .txy⟩,
   ⟨.abs, .word .stzAbs⟩, ⟨.absX, .word .staAbsX⟩, ⟨.absX, .word .stzAbsX⟩, ⟨.absLX, .long .staAbsLX⟩]

/-- Row 0xA_ of the opcode map (R126). -/
def opcodeRowA : List OpcodeEntry :=
  [⟨.immX, .immX .ldyImm⟩, ⟨.dpIndX, .byte .ldaDpIndX⟩, ⟨.immX, .immX .ldxImm⟩, ⟨.sr, .byte .ldaSr⟩,
   ⟨.dp, .byte .ldyDp⟩, ⟨.dp, .byte .ldaDp⟩, ⟨.dp, .byte .ldxDp⟩, ⟨.dpIndL, .byte .ldaDpIndL⟩,
   ⟨.imp, .none .tay⟩, ⟨.immM, .immM .ldaImm⟩, ⟨.imp, .none .tax⟩, ⟨.stk, .none .plb⟩,
   ⟨.abs, .word .ldyAbs⟩, ⟨.abs, .word .ldaAbs⟩, ⟨.abs, .word .ldxAbs⟩, ⟨.absL, .long .ldaAbsL⟩]

/-- Row 0xB_ of the opcode map (R126). -/
def opcodeRowB : List OpcodeEntry :=
  [⟨.rel, .byte .bcs⟩, ⟨.dpIndY, .byte .ldaDpIndY⟩, ⟨.dpInd, .byte .ldaDpInd⟩, ⟨.srIndY, .byte .ldaSrIndY⟩,
   ⟨.dpX, .byte .ldyDpX⟩, ⟨.dpX, .byte .ldaDpX⟩, ⟨.dpY, .byte .ldxDpY⟩, ⟨.dpIndLY, .byte .ldaDpIndLY⟩,
   ⟨.imp, .none .clv⟩, ⟨.absY, .word .ldaAbsY⟩, ⟨.imp, .none .tsx⟩, ⟨.imp, .none .tyx⟩,
   ⟨.absX, .word .ldyAbsX⟩, ⟨.absX, .word .ldaAbsX⟩, ⟨.absY, .word .ldxAbsY⟩, ⟨.absLX, .long .ldaAbsLX⟩]

/-- Row 0xC_ of the opcode map (R126). -/
def opcodeRowC : List OpcodeEntry :=
  [⟨.immX, .immX .cpyImm⟩, ⟨.dpIndX, .byte .cmpDpIndX⟩, ⟨.imm8, .byte .rep⟩, ⟨.sr, .byte .cmpSr⟩,
   ⟨.dp, .byte .cpyDp⟩, ⟨.dp, .byte .cmpDp⟩, ⟨.dp, .byte .decDp⟩, ⟨.dpIndL, .byte .cmpDpIndL⟩,
   ⟨.imp, .none .iny⟩, ⟨.immM, .immM .cmpImm⟩, ⟨.imp, .none .dex⟩, ⟨.imp, .none .wai⟩,
   ⟨.abs, .word .cpyAbs⟩, ⟨.abs, .word .cmpAbs⟩, ⟨.abs, .word .decAbs⟩, ⟨.absL, .long .cmpAbsL⟩]

/-- Row 0xD_ of the opcode map (R126). -/
def opcodeRowD : List OpcodeEntry :=
  [⟨.rel, .byte .bne⟩, ⟨.dpIndY, .byte .cmpDpIndY⟩, ⟨.dpInd, .byte .cmpDpInd⟩, ⟨.srIndY, .byte .cmpSrIndY⟩,
   ⟨.pei, .byte .pei⟩, ⟨.dpX, .byte .cmpDpX⟩, ⟨.dpX, .byte .decDpX⟩, ⟨.dpIndLY, .byte .cmpDpIndLY⟩,
   ⟨.imp, .none .cld⟩, ⟨.absY, .word .cmpAbsY⟩, ⟨.stk, .none .phx⟩, ⟨.imp, .none .stp⟩,
   ⟨.absIndL, .word .jmlIndL⟩, ⟨.absX, .word .cmpAbsX⟩, ⟨.absX, .word .decAbsX⟩, ⟨.absLX, .long .cmpAbsLX⟩]

/-- Row 0xE_ of the opcode map (R126). -/
def opcodeRowE : List OpcodeEntry :=
  [⟨.immX, .immX .cpxImm⟩, ⟨.dpIndX, .byte .sbcDpIndX⟩, ⟨.imm8, .byte .sep⟩, ⟨.sr, .byte .sbcSr⟩,
   ⟨.dp, .byte .cpxDp⟩, ⟨.dp, .byte .sbcDp⟩, ⟨.dp, .byte .incDp⟩, ⟨.dpIndL, .byte .sbcDpIndL⟩,
   ⟨.imp, .none .inx⟩, ⟨.immM, .immM .sbcImm⟩, ⟨.imp, .none .nop⟩, ⟨.imp, .none .xba⟩,
   ⟨.abs, .word .cpxAbs⟩, ⟨.abs, .word .sbcAbs⟩, ⟨.abs, .word .incAbs⟩, ⟨.absL, .long .sbcAbsL⟩]

/-- Row 0xF_ of the opcode map (R126). -/
def opcodeRowF : List OpcodeEntry :=
  [⟨.rel, .byte .beq⟩, ⟨.dpIndY, .byte .sbcDpIndY⟩, ⟨.dpInd, .byte .sbcDpInd⟩, ⟨.srIndY, .byte .sbcSrIndY⟩,
   ⟨.imm16, .word .pea⟩, ⟨.dpX, .byte .sbcDpX⟩, ⟨.dpX, .byte .incDpX⟩, ⟨.dpIndLY, .byte .sbcDpIndLY⟩,
   ⟨.imp, .none .sed⟩, ⟨.absY, .word .sbcAbsY⟩, ⟨.stk, .none .plx⟩, ⟨.imp, .none .xce⟩,
   ⟨.absIndX, .word .jsrIndX⟩, ⟨.absX, .word .sbcAbsX⟩, ⟨.absX, .word .incAbsX⟩, ⟨.absLX, .long .sbcAbsLX⟩]

/-- The opcode map (R126): row = high nibble, column = low nibble. -/
def opcodeMap : List (List OpcodeEntry) :=
  [opcodeRow0, opcodeRow1, opcodeRow2, opcodeRow3, opcodeRow4, opcodeRow5, opcodeRow6, opcodeRow7,
   opcodeRow8, opcodeRow9, opcodeRowA, opcodeRowB, opcodeRowC, opcodeRowD, opcodeRowE, opcodeRowF]

/-- The map's entry of an opcode byte (R120, R126); every byte has one (R128). -/
def opcodeEntry (op : Byte) : OpcodeEntry :=
  ((opcodeMap.getD (op.toNat / 16) []).getD (op.toNat % 16) ⟨.imp, .none .nop⟩)

/-- Why the decoder gives no instruction: there are too few bytes. No opcode is illegal (R128). -/
inductive DecodeError where
  | noOpcode
  | missingOperand (opcode : Byte)
deriving DecidableEq, Repr

/-- The decoder (R120 to R125): the instruction at the head of the bytes and the bytes after it. -/
def decode (w : Widths) : List Byte → Except DecodeError (Instr × List Byte)
  | [] => .error .noOpcode
  | op :: bs =>
    let k := opcodeEntry op
    let n := k.format.operandBytes w
    if bs.length < n then .error (.missingOperand op)
    else .ok (k.make.build w (bs.take n), bs.drop n)

/-- The low byte of a 16-bit operand. -/
def loByte (v : Word) : Byte := v.extractLsb' 0 8

/-- The high byte of a 16-bit operand. -/
def hiByte (v : Word) : Byte := v.extractLsb' 8 8

/-- The bytes of a 24-bit operand, the bank last (R122). -/
def longBytes (al : Addr) : List Byte := [al.extractLsb' 0 8, al.extractLsb' 8 8, al.extractLsb' 16 8]

/-- The bytes of an immediate (R122). -/
def Imm.bytes : Imm → List Byte
  | .b8 v  => [v]
  | .b16 v => [loByte v, hiByte v]

/-- The encoder: the bytes of an instruction, from the encodings of the opcode table (R122, R126). -/
def encode : Instr → List Byte

  | .ldaDpIndX d => [0xA1, d]
  | .ldaSr n => [0xA3, n]
  | .ldaDp d => [0xA5, d]
  | .ldaDpIndL d => [0xA7, d]
  | .ldaImm v => 0xA9 :: v.bytes
  | .ldaAbs a => [0xAD, loByte a, hiByte a]
  | .ldaAbsL al => 0xAF :: longBytes al
  | .ldaDpIndY d => [0xB1, d]
  | .ldaDpInd d => [0xB2, d]
  | .ldaSrIndY n => [0xB3, n]
  | .ldaDpX d => [0xB5, d]
  | .ldaDpIndLY d => [0xB7, d]
  | .ldaAbsY a => [0xB9, loByte a, hiByte a]
  | .ldaAbsX a => [0xBD, loByte a, hiByte a]
  | .ldaAbsLX al => 0xBF :: longBytes al
  | .ldxImm v => 0xA2 :: v.bytes
  | .ldxDp d => [0xA6, d]
  | .ldxAbs a => [0xAE, loByte a, hiByte a]
  | .ldxDpY d => [0xB6, d]
  | .ldxAbsY a => [0xBE, loByte a, hiByte a]
  | .ldyImm v => 0xA0 :: v.bytes
  | .ldyDp d => [0xA4, d]
  | .ldyAbs a => [0xAC, loByte a, hiByte a]
  | .ldyDpX d => [0xB4, d]
  | .ldyAbsX a => [0xBC, loByte a, hiByte a]
  | .staDpIndX d => [0x81, d]
  | .staSr n => [0x83, n]
  | .staDp d => [0x85, d]
  | .staDpIndL d => [0x87, d]
  | .staAbs a => [0x8D, loByte a, hiByte a]
  | .staAbsL al => 0x8F :: longBytes al
  | .staDpIndY d => [0x91, d]
  | .staDpInd d => [0x92, d]
  | .staSrIndY n => [0x93, n]
  | .staDpX d => [0x95, d]
  | .staDpIndLY d => [0x97, d]
  | .staAbsY a => [0x99, loByte a, hiByte a]
  | .staAbsX a => [0x9D, loByte a, hiByte a]
  | .staAbsLX al => 0x9F :: longBytes al
  | .stxDp d => [0x86, d]
  | .stxAbs a => [0x8E, loByte a, hiByte a]
  | .stxDpY d => [0x96, d]
  | .styDp d => [0x84, d]
  | .styAbs a => [0x8C, loByte a, hiByte a]
  | .styDpX d => [0x94, d]
  | .stzDp d => [0x64, d]
  | .stzDpX d => [0x74, d]
  | .stzAbs a => [0x9C, loByte a, hiByte a]
  | .stzAbsX a => [0x9E, loByte a, hiByte a]
  | .adcDpIndX d => [0x61, d]
  | .adcSr n => [0x63, n]
  | .adcDp d => [0x65, d]
  | .adcDpIndL d => [0x67, d]
  | .adcImm v => 0x69 :: v.bytes
  | .adcAbs a => [0x6D, loByte a, hiByte a]
  | .adcAbsL al => 0x6F :: longBytes al
  | .adcDpIndY d => [0x71, d]
  | .adcDpInd d => [0x72, d]
  | .adcSrIndY n => [0x73, n]
  | .adcDpX d => [0x75, d]
  | .adcDpIndLY d => [0x77, d]
  | .adcAbsY a => [0x79, loByte a, hiByte a]
  | .adcAbsX a => [0x7D, loByte a, hiByte a]
  | .adcAbsLX al => 0x7F :: longBytes al
  | .sbcDpIndX d => [0xE1, d]
  | .sbcSr n => [0xE3, n]
  | .sbcDp d => [0xE5, d]
  | .sbcDpIndL d => [0xE7, d]
  | .sbcImm v => 0xE9 :: v.bytes
  | .sbcAbs a => [0xED, loByte a, hiByte a]
  | .sbcAbsL al => 0xEF :: longBytes al
  | .sbcDpIndY d => [0xF1, d]
  | .sbcDpInd d => [0xF2, d]
  | .sbcSrIndY n => [0xF3, n]
  | .sbcDpX d => [0xF5, d]
  | .sbcDpIndLY d => [0xF7, d]
  | .sbcAbsY a => [0xF9, loByte a, hiByte a]
  | .sbcAbsX a => [0xFD, loByte a, hiByte a]
  | .sbcAbsLX al => 0xFF :: longBytes al
  | .cmpDpIndX d => [0xC1, d]
  | .cmpSr n => [0xC3, n]
  | .cmpDp d => [0xC5, d]
  | .cmpDpIndL d => [0xC7, d]
  | .cmpImm v => 0xC9 :: v.bytes
  | .cmpAbs a => [0xCD, loByte a, hiByte a]
  | .cmpAbsL al => 0xCF :: longBytes al
  | .cmpDpIndY d => [0xD1, d]
  | .cmpDpInd d => [0xD2, d]
  | .cmpSrIndY n => [0xD3, n]
  | .cmpDpX d => [0xD5, d]
  | .cmpDpIndLY d => [0xD7, d]
  | .cmpAbsY a => [0xD9, loByte a, hiByte a]
  | .cmpAbsX a => [0xDD, loByte a, hiByte a]
  | .cmpAbsLX al => 0xDF :: longBytes al
  | .cpxImm v => 0xE0 :: v.bytes
  | .cpxDp d => [0xE4, d]
  | .cpxAbs a => [0xEC, loByte a, hiByte a]
  | .cpyImm v => 0xC0 :: v.bytes
  | .cpyDp d => [0xC4, d]
  | .cpyAbs a => [0xCC, loByte a, hiByte a]
  | .incAcc => [0x1A]
  | .incDp d => [0xE6, d]
  | .incAbs a => [0xEE, loByte a, hiByte a]
  | .incDpX d => [0xF6, d]
  | .incAbsX a => [0xFE, loByte a, hiByte a]
  | .inx => [0xE8]
  | .iny => [0xC8]
  | .decAcc => [0x3A]
  | .decDp d => [0xC6, d]
  | .decAbs a => [0xCE, loByte a, hiByte a]
  | .decDpX d => [0xD6, d]
  | .decAbsX a => [0xDE, loByte a, hiByte a]
  | .dex => [0xCA]
  | .dey => [0x88]
  | .andDpIndX d => [0x21, d]
  | .andSr n => [0x23, n]
  | .andDp d => [0x25, d]
  | .andDpIndL d => [0x27, d]
  | .andImm v => 0x29 :: v.bytes
  | .andAbs a => [0x2D, loByte a, hiByte a]
  | .andAbsL al => 0x2F :: longBytes al
  | .andDpIndY d => [0x31, d]
  | .andDpInd d => [0x32, d]
  | .andSrIndY n => [0x33, n]
  | .andDpX d => [0x35, d]
  | .andDpIndLY d => [0x37, d]
  | .andAbsY a => [0x39, loByte a, hiByte a]
  | .andAbsX a => [0x3D, loByte a, hiByte a]
  | .andAbsLX al => 0x3F :: longBytes al
  | .oraDpIndX d => [0x01, d]
  | .oraSr n => [0x03, n]
  | .oraDp d => [0x05, d]
  | .oraDpIndL d => [0x07, d]
  | .oraImm v => 0x09 :: v.bytes
  | .oraAbs a => [0x0D, loByte a, hiByte a]
  | .oraAbsL al => 0x0F :: longBytes al
  | .oraDpIndY d => [0x11, d]
  | .oraDpInd d => [0x12, d]
  | .oraSrIndY n => [0x13, n]
  | .oraDpX d => [0x15, d]
  | .oraDpIndLY d => [0x17, d]
  | .oraAbsY a => [0x19, loByte a, hiByte a]
  | .oraAbsX a => [0x1D, loByte a, hiByte a]
  | .oraAbsLX al => 0x1F :: longBytes al
  | .eorDpIndX d => [0x41, d]
  | .eorSr n => [0x43, n]
  | .eorDp d => [0x45, d]
  | .eorDpIndL d => [0x47, d]
  | .eorImm v => 0x49 :: v.bytes
  | .eorAbs a => [0x4D, loByte a, hiByte a]
  | .eorAbsL al => 0x4F :: longBytes al
  | .eorDpIndY d => [0x51, d]
  | .eorDpInd d => [0x52, d]
  | .eorSrIndY n => [0x53, n]
  | .eorDpX d => [0x55, d]
  | .eorDpIndLY d => [0x57, d]
  | .eorAbsY a => [0x59, loByte a, hiByte a]
  | .eorAbsX a => [0x5D, loByte a, hiByte a]
  | .eorAbsLX al => 0x5F :: longBytes al
  | .bitDp d => [0x24, d]
  | .bitAbs a => [0x2C, loByte a, hiByte a]
  | .bitDpX d => [0x34, d]
  | .bitAbsX a => [0x3C, loByte a, hiByte a]
  | .bitImm v => 0x89 :: v.bytes
  | .tsbDp d => [0x04, d]
  | .tsbAbs a => [0x0C, loByte a, hiByte a]
  | .trbDp d => [0x14, d]
  | .trbAbs a => [0x1C, loByte a, hiByte a]
  | .aslDp d => [0x06, d]
  | .aslAcc => [0x0A]
  | .aslAbs a => [0x0E, loByte a, hiByte a]
  | .aslDpX d => [0x16, d]
  | .aslAbsX a => [0x1E, loByte a, hiByte a]
  | .lsrDp d => [0x46, d]
  | .lsrAcc => [0x4A]
  | .lsrAbs a => [0x4E, loByte a, hiByte a]
  | .lsrDpX d => [0x56, d]
  | .lsrAbsX a => [0x5E, loByte a, hiByte a]
  | .rolDp d => [0x26, d]
  | .rolAcc => [0x2A]
  | .rolAbs a => [0x2E, loByte a, hiByte a]
  | .rolDpX d => [0x36, d]
  | .rolAbsX a => [0x3E, loByte a, hiByte a]
  | .rorDp d => [0x66, d]
  | .rorAcc => [0x6A]
  | .rorAbs a => [0x6E, loByte a, hiByte a]
  | .rorDpX d => [0x76, d]
  | .rorAbsX a => [0x7E, loByte a, hiByte a]
  | .bcc r => [0x90, r]
  | .bcs r => [0xB0, r]
  | .beq r => [0xF0, r]
  | .bne r => [0xD0, r]
  | .bmi r => [0x30, r]
  | .bpl r => [0x10, r]
  | .bvc r => [0x50, r]
  | .bvs r => [0x70, r]
  | .bra r => [0x80, r]
  | .brl rl => [0x82, loByte rl, hiByte rl]
  | .jmpAbs a => [0x4C, loByte a, hiByte a]
  | .jmpInd a => [0x6C, loByte a, hiByte a]
  | .jmpIndX a => [0x7C, loByte a, hiByte a]
  | .jmlAbsL al => 0x5C :: longBytes al
  | .jmlIndL a => [0xDC, loByte a, hiByte a]
  | .jsrAbs a => [0x20, loByte a, hiByte a]
  | .jsrIndX a => [0xFC, loByte a, hiByte a]
  | .jsl al => 0x22 :: longBytes al
  | .rtl => [0x6B]
  | .rts => [0x60]
  | .brk sig => [0x00, sig]
  | .cop sig => [0x02, sig]
  | .nop => [0xEA]
  | .wdm sig => [0x42, sig]
  | .rti => [0x40]
  | .wai => [0xCB]
  | .stp => [0xDB]
  | .mvn t u => [0x54, t, u]
  | .mvp t u => [0x44, t, u]
  | .pha => [0x48]
  | .phx => [0xDA]
  | .phy => [0x5A]
  | .php => [0x08]
  | .phb => [0x8B]
  | .phk => [0x4B]
  | .phd => [0x0B]
  | .pea v => [0xF4, loByte v, hiByte v]
  | .pei d => [0xD4, d]
  | .per rl => [0x62, loByte rl, hiByte rl]
  | .plx => [0xFA]
  | .ply => [0x7A]
  | .plb => [0xAB]
  | .pld => [0x2B]
  | .pla => [0x68]
  | .plp => [0x28]
  | .clc => [0x18]
  | .sec => [0x38]
  | .cli => [0x58]
  | .sei => [0x78]
  | .cld => [0xD8]
  | .sed => [0xF8]
  | .clv => [0xB8]
  | .rep b => [0xC2, b]
  | .sep b => [0xE2, b]
  | .xce => [0xFB]
  | .tax => [0xAA]
  | .tay => [0xA8]
  | .txa => [0x8A]
  | .tya => [0x98]
  | .txy => [0x9B]
  | .tyx => [0xBB]
  | .tsx => [0xBA]
  | .txs => [0x9A]
  | .tcs => [0x1B]
  | .tcd => [0x5B]
  | .tdc => [0x7B]
  | .tsc => [0x3B]
  | .xba => [0xEB]

/-- The length of an instruction in bytes (R125). -/
def Instr.length (i : Instr) : Nat := (encode i).length

/-- The first four bytes of an instruction whose bits are `w`, numbered as the opcode table numbers them: the opcode is
bits 7..0, byte 1 bits 15..8, and so on. -/
def wordBytes (w : Nat) : List Byte :=
  [BitVec.ofNat 8 w, BitVec.ofNat 8 (w / 256), BitVec.ofNat 8 (w / 65536), BitVec.ofNat 8 (w / 16777216)]

/-- The bits of `w` below bit `nbits`; every bit above is 0. -/
def tableWord (nbits w : Nat) : Nat := w % 2 ^ nbits

/-- The instruction the decoder reads from an instruction whose bits are `w`, with the widths of the reset state
(m = x = 1, R58). -/
def decodeTableWord (nbits w : Nat) : Option Instr :=
  match decode ⟨true, true⟩ (wordBytes (tableWord nbits w)) with
  | .ok (i, _) => some i
  | .error _   => none

end Sys2Proof
end

