-- ==== Sys2Proof/Machine/Bits.lean ====
section
/-! DEFINITION. Bit fields, byte order, extension and the operand widths (spec R10, R11, R44, R83, R84). -/

namespace Sys2Proof.Machine

/-- `lo(v)`: v[7:0] (R11). -/
def lo (v : Word) : Byte := v.extractLsb' 0 8

/-- `hi(v)`: v[15:8] (R11). -/
def hi (v : Word) : Byte := v.extractLsb' 8 8

/-- The 16-bit value with high byte `h` and low byte `l` (R11). -/
def pair (h l : Byte) : Word := h ++ l

/-- `zext_16` of a byte (R11). -/
def zext16 (b : Byte) : Word := b.setWidth 16

/-- `sext_16` of a byte (R11). -/
def sext16 (b : Byte) : Word := b.signExtend 16

/-- The 24-bit address bank:off (R11). -/
def mkAddr (bank : Byte) (off : Word) : Addr := bank ++ off

/-- Bits 23..16 of an address. -/
def bankOf (a : Addr) : Byte := a.extractLsb' 16 8

/-- Bits 15..0 of an address. -/
def offOf (a : Addr) : Word := a.extractLsb' 0 16

/-- Bits 23..8 of an address: its page, over all banks (R154). -/
def pageOf (a : Addr) : Word := a.extractLsb' 8 16

/-- The address of a 16-bit offset in bank 0 (R81). -/
def bank0 (off : Word) : Addr := mkAddr 0x00 off

/-- How the address of the next byte of a multi-byte access is found: `next_long`, `next_bank` (R84), or the page wrap
of `dp_step` under `legacy_page` (R151). -/
inductive AddrStep where
  | long
  | bank
  | page
deriving DecidableEq, Repr

/-- The next byte's address under each step (R84, R151). -/
def AddrStep.next : AddrStep → Addr → Addr
  | .long, a => a + 1
  | .bank, a => mkAddr (bankOf a) (offOf a + 1)
  | .page, a => mkAddr (bankOf a) (pair (hi (offOf a)) (lo (offOf a) + 1))

/-- The width an instruction works at: 8 or 16 bits (R44). -/
inductive Width where
  | w8
  | w16
deriving DecidableEq, Repr

/-- The width a width flag selects: 8 when it is set (R44). -/
def widthOf (flag : Bool) : Width := if flag then .w8 else .w16

/-- The number of bits. -/
def Width.bits : Width → Nat
  | .w8  => 8
  | .w16 => 16

/-- `v mod 2^w`, zero-extended to 16 bits (R11). -/
def Width.trunc : Width → Word → Word
  | .w8,  v => zext16 (lo v)
  | .w16, v => v

/-- `v[w-1]` (R44, R45). -/
def Width.msb : Width → Word → Bool
  | .w8,  v => v.getLsbD 7
  | .w16, v => v.getLsbD 15

/-- `v[w-2]`, the bit BIT copies to v (R303). -/
def Width.msb2 : Width → Word → Bool
  | .w8,  v => v.getLsbD 6
  | .w16, v => v.getLsbD 14

/-- A carry as the 16-bit value 0 or 1. -/
def carryWord (c : Bool) : Word := if c then 0x0001 else 0x0000

/-- A carry placed at bit w-1 (R309). -/
def Width.topBit : Width → Bool → Word
  | .w8,  c => if c then 0x0080 else 0x0000
  | .w16, c => if c then 0x8000 else 0x0000

end Sys2Proof.Machine
end

