-- ==== Sys2Proof/Config.lean ====
section
/-! DEFINITION. What an implementation fixes: the open parameters of spec R8 as plain data, the one uninterpreted
constant that answers reads outside RAM and ROM, and the values this model names where the spec states none. -/

namespace Sys2Proof

/-- `IRQ_POLL_POINT` (R8, R512): which value of the i flag the IRQ test uses after CLI, SEI, PLP, REP and SEP. -/
inductive PollPoint where
  | afterInstruction
  | beforeFinalFlagWrite
deriving DecidableEq, Repr

/-- What backs a bus address (R82): RAM reads back the last byte written, ROM reads a fixed image, and every other
address is an oracle (`device`). -/
inductive BusKind where
  | ram
  | rom
  | device
deriving DecidableEq, Repr

/-- One region of the bus: the 24-bit addresses `first` to `last`, both included, and what backs them. -/
structure Region where
  first : Nat
  last  : Nat
  kind  : BusKind
deriving DecidableEq, Repr

/-- The parameters of R8 that are fixed while the core runs. `BUS` is held with the bus (`Machine.Bus.regions`) and
`RESET_KIND` comes with each reset request (`Machine.State.resetKind`). No step changes them. -/
structure Params where
  /-- `EMU_LINEAR_STACK_OPS` (R90): the opcodes whose stack accesses leave page 1 in emulation mode. -/
  linearStackOps : List Byte
  /-- `EMU_LINEAR_DP_OPS` (R152): the opcodes whose direct-page pointer bytes do not wrap within the page. -/
  linearDpOps    : List Byte
  /-- `IRQ_POLL_POINT` (R512). -/
  pollPoint      : PollPoint
  /-- `WAIT_STEP_CYCLES` (R631). -/
  waitStepCycles : Nat
deriving DecidableEq, Repr

/-- The stack opcodes inherited from the 6502 and 65C02, and RTI and BRK: R90 keeps them inside page 1 whatever
`EMU_LINEAR_STACK_OPS` is (BRK PHP JSR PLP RTI PHA PHY RTS PLA PLY PHX PLX). -/
def Config.pageOneStackOps : List Byte :=
  [0x00, 0x08, 0x20, 0x28, 0x40, 0x48, 0x5A, 0x60, 0x68, 0x7A, 0xDA, 0xFA]

/-- The conditions R8 and R90 put on the parameters: a waiting step costs at least one cycle, and no opcode inherited
from the 6502 addresses the stack linearly. -/
def Params.wf (q : Params) : Bool :=
  decide (1 ≤ q.waitStepCycles) && q.linearStackOps.all fun op => !Config.pageOneStackOps.contains op

/-- The candidate set of R90: PEA PEI PER PHD PLD PLB JSL RTL and JSR (a,X). -/
def Config.candidateLinearStackOps : List Byte :=
  [0xF4, 0xD4, 0x62, 0x0B, 0x2B, 0xAB, 0x22, 0x6B, 0xFC]

/-- The candidate set of R152: the [d] and [d],Y opcodes. -/
def Config.candidateLinearDpOps : List Byte :=
  [0x07, 0x17, 0x27, 0x37, 0x47, 0x57, 0x67, 0x77, 0x87, 0x97, 0xA7, 0xB7, 0xC7, 0xD7, 0xE7, 0xF7]

/-- The parameters `State.reset` carries. DESIGN CHOICE (log entry 7): the candidate sets, the spec's default poll
point (R512) and the wait cost its vectors use; every statement holds for all parameters. -/
def Config.resetParams : Params :=
  { linearStackOps := Config.candidateLinearStackOps
    linearDpOps    := Config.candidateLinearDpOps
    pollPoint      := .afterInstruction
    waitStepCycles := 1 }

/-- FREE VALUE (log entry 3): the byte an address outside RAM and ROM answers (R82: "A read returns any byte"). It
depends on the address and on the state of what lies behind it, held as a number. -/
opaque Config.deviceRead : Nat → Addr → Byte

/-- FREE VALUE (log entry 5): the state of what lies behind the oracle addresses after a read of one of them (R82, R93), so
that a repeated read may answer differently. -/
opaque Config.deviceAfterRead : Nat → Addr → Nat

/-- FREE VALUE (log entry 5): that state after a write. A transfer the write starts may take bytes of memory (R95). -/
opaque Config.deviceAfterWrite : Nat → Addr → Byte → List (Nat × Byte) → Nat

/-- FREE VALUE (log entry 4): the bytes of memory that change when the core writes a byte to an address outside RAM and
ROM, such as the whole transfer of a DMA that the write starts (R82, R95). They depend on that state, on the address
and byte written and on what memory holds. -/
opaque Config.deviceWrite : Nat → Addr → Byte → List (Nat × Byte) → List (Addr × Byte)

/-- DESIGN CHOICE (log entry 2), unsafe: what an address that nothing has written reads as. -/
def Config.unlistedByte : Byte := 0x00

/-- DESIGN CHOICE (log entry 1), unsafe: the value of a register byte that R600 leaves `unknown` after a reset
(A, B, X[7:0], Y[7:0]). -/
def Config.resetByte : Byte := 0x00

/-- DESIGN CHOICE (log entry 1), unsafe: S[7:0] after a reset, as in the program start state of 95_test_vectors.md. -/
def Config.resetStackLow : Byte := 0xFF

/-- DESIGN CHOICE (log entry 1), unsafe: the flags n, v, z and c after a hard reset. -/
def Config.resetFlag : Bool := false

end Sys2Proof
end

