-- ==== Sys2Proof/Machine/State.lean ====
section
/-! DEFINITION. The state of the core (spec R30, R55), the bus behind its port (R80, R82), and the state after reset (R58). -/

namespace Sys2Proof.Machine

/-- The processor status P as its eight flags (R30, R40). `m` and `x` are the width flags, not registers. -/
structure Flags where
  n : Bool
  v : Bool
  m : Bool
  x : Bool
  d : Bool
  i : Bool
  z : Bool
  c : Bool
deriving DecidableEq, Repr

/-- `run_state` (R55, R550). -/
inductive RunState where
  | running
  | waiting
  | stopped
deriving DecidableEq, Repr

/-- `RESET_KIND` (R8, R600): which reset the host asks for. -/
inductive ResetKind where
  | hard
  | soft
deriving DecidableEq, Repr

/-- One bus access (R80): a byte read at an address, or a byte written there. -/
inductive BusAccess where
  | read  (a : Addr) (v : Byte)
  | write (a : Addr) (v : Byte)
deriving DecidableEq, Repr

/-- Memory as a list of cells in canonical form (`Memory.wf`): addresses strictly rising and below 2^24, no cell equal
to what an unlisted address reads as. -/
abbrev Memory := List Host.Cell

/-- What stands behind the core's bus port (R80, R82). `mem` holds the bytes of RAM and ROM. `regions` is the parameter
`BUS`: an address in no region is RAM. `devices` stands for the state of everything behind the oracle addresses (the
model's own field: a number that each such access replaces by a free value, log entry 5). `log` is the model's own record of the accesses of the current
Step, newest first. -/
structure Bus where
  mem     : Memory
  regions : List Region
  devices : Nat
  log     : List BusAccess
deriving DecidableEq, Repr

/-- The state of the core and of its surroundings. `c` is the 16-bit accumulator (A low, B high), `sp` is S, `e` the
emulation bit. `nmiPending`, `irqLine`, `resetPending` and `resetKind` are the inputs R505 and R602 let the outside set
between Steps. `cost` is the cycle cost the last Step returned (R630). -/
structure State where
  c            : Word
  x            : Word
  y            : Word
  sp           : Word
  d            : Word
  db           : Byte
  pb           : Byte
  pc           : Word
  p            : Flags
  e            : Bool
  run          : RunState
  nmiPending   : Bool
  irqLine      : Bool
  resetPending : Bool
  resetKind    : ResetKind
  iPoll        : Bool
  params       : Params
  bus          : Bus
  cost         : Nat
deriving DecidableEq, Repr

/-- The faults of the core: none. R501 rules out every synchronous fault, and the bus never fails (R80), so no
constructor exists and no step answers `fault`. `fault Unknown(r)` of R32 is not raised, because every register holds a
value at reset (log entry 1). -/
inductive Fault where
deriving DecidableEq, Repr

/-- The refusals of the model. -/
inductive Refusal where
  /-- Raised by an arm of `exec` whose instruction has no meaning yet; safe. No arm raises it: every row of the opcode
  table has its meaning. -/
  | notModelled (mnemonic : String)
deriving DecidableEq, Repr

/-- The outcome of one instruction or one Step. -/
abbrev Result := Host.Outcome State Fault Refusal

/-! Named updates, one per field an instruction writes. -/

def State.withC (s : State) (v : Word) : State := { s with c := v }
def State.withX (s : State) (v : Word) : State := { s with x := v }
def State.withY (s : State) (v : Word) : State := { s with y := v }
def State.withSP (s : State) (v : Word) : State := { s with sp := v }
def State.withD (s : State) (v : Word) : State := { s with d := v }
def State.withDB (s : State) (v : Byte) : State := { s with db := v }
def State.withPB (s : State) (v : Byte) : State := { s with pb := v }
def State.withPC (s : State) (v : Word) : State := { s with pc := v }
def State.withP (s : State) (v : Flags) : State := { s with p := v }
def State.withE (s : State) (v : Bool) : State := { s with e := v }
def State.withRun (s : State) (v : RunState) : State := { s with run := v }
def State.withNmiPending (s : State) (v : Bool) : State := { s with nmiPending := v }
def State.withIPoll (s : State) (v : Bool) : State := { s with iPoll := v }
def State.withBus (s : State) (v : Bus) : State := { s with bus := v }
def State.withCost (s : State) (v : Nat) : State := { s with cost := v }

/-- The bus at power-on: memory lists nothing, every address is RAM (DESIGN CHOICE, log entries 2 and 3). -/
def Bus.empty : Bus := { mem := [], regions := [], devices := 0, log := [] }

/-- Power-on (R601): a hard reset is pending. The registers, `unknown` in the spec, hold the named values of log entry 1. -/
def State.powerOn : State :=
  { c            := 0x0000
    x            := 0x0000
    y            := 0x0000
    sp           := 0x01FF
    d            := 0x0000
    db           := 0x00
    pb           := 0x00
    pc           := 0x0000
    p            := { n := false, v := false, m := true, x := true, d := false, i := true, z := false, c := false }
    e            := true
    run          := .running
    nmiPending   := false
    irqLine      := false
    resetPending := true
    resetKind    := .hard
    iPoll        := true
    params       := Config.resetParams
    bus          := Bus.empty
    cost         := 0 }

/-- The machine right after the hard reset of power-on (R58, R600). C, X[7:0], Y[7:0], S[7:0] and n, v, z, c have no
reset value in the spec: they hold the values log entry 1 names. PC is the vector at 00:FFFC, which empty memory reads
as 0x0000 (log entry 2). `cost` and `bus.log` are those of the Step that performed the reset: 7 cycles, two reads. -/
def State.reset : State :=
  { c            := 0x0000
    x            := 0x0000
    y            := 0x0000
    sp           := 0x01FF
    d            := 0x0000
    db           := 0x00
    pb           := 0x00
    pc           := 0x0000
    p            := { n := false, v := false, m := true, x := true, d := false, i := true, z := false, c := false }
    e            := true
    run          := .running
    nmiPending   := false
    irqLine      := false
    resetPending := false
    resetKind    := .hard
    iPoll        := true
    params       := Config.resetParams
    bus          := { Bus.empty with log := [.read 0x00FFFD 0x00, .read 0x00FFFC 0x00] }
    cost         := 7 }

end Sys2Proof.Machine
end

