-- ==== Sys2Proof/Machine/Flags.lean ====
section
/-! DEFINITION. The status byte, the flag computations and the arithmetic they come from (spec R40, R41, R45, R283, R284,
and the result rules of 44_arithmetic.md and 45_logic_shift.md). Every function here is pure: a width, the flags and
the operands in, a result and the new flags out. -/

namespace Sys2Proof.Machine

/-- `Pbyte(bflag)` (R40). -/
def pByte (e bflag : Bool) (p : Flags) : Byte :=
  (if p.n then 0x80 else 0) ||| (if p.v then 0x40 else 0) ||| (if e || p.m then 0x20 else 0)
    ||| (if (if e then bflag else p.x) then 0x10 else 0) ||| (if p.d then 0x08 else 0) ||| (if p.i then 0x04 else 0)
    ||| (if p.z then 0x02 else 0) ||| (if p.c then 0x01 else 0)

/-- The flags `SetP(b)` writes (R41): in emulation mode bits 5 and 4 are ignored and m and x are 1. -/
def flagsOfByte (e : Bool) (b : Byte) : Flags :=
  { n := b.getLsbD 7, v := b.getLsbD 6, m := e || b.getLsbD 5, x := e || b.getLsbD 4
    d := b.getLsbD 3, i := b.getLsbD 2, z := b.getLsbD 1, c := b.getLsbD 0 }

/-- The flags after `REP #b` (R377): each flag whose bit is set is cleared, m and x in native mode only. -/
def repFlags (e : Bool) (b : Byte) (p : Flags) : Flags :=
  { n := p.n && !b.getLsbD 7, v := p.v && !b.getLsbD 6
    m := p.m && (e || !b.getLsbD 5), x := p.x && (e || !b.getLsbD 4)
    d := p.d && !b.getLsbD 3, i := p.i && !b.getLsbD 2, z := p.z && !b.getLsbD 1, c := p.c && !b.getLsbD 0 }

/-- The flags after `SEP #b` (R378): each flag whose bit is set is set, m and x in native mode only. -/
def sepFlags (e : Bool) (b : Byte) (p : Flags) : Flags :=
  { n := p.n || b.getLsbD 7, v := p.v || b.getLsbD 6
    m := p.m || (!e && b.getLsbD 5), x := p.x || (!e && b.getLsbD 4)
    d := p.d || b.getLsbD 3, i := p.i || b.getLsbD 2, z := p.z || b.getLsbD 1, c := p.c || b.getLsbD 0 }

/-- `SetNZ(v, w)` (R45). -/
def setNZ (w : Width) (v : Word) (p : Flags) : Flags := { p with n := w.msb v, z := w.trunc v == 0 }

/-- What an adder or subtractor returns (R283): the result, the carry out and the signed overflow. -/
structure AluOut where
  value    : Word
  carry    : Bool
  overflow : Bool
deriving DecidableEq, Repr

/-- `T(k)` of R283: the digit 9 followed by k hexadecimal digits F. -/
def bcdLimit (k : Nat) : Nat := 10 * 16 ^ k - 1

/-- One nibble of the decimal sum (R283): digit k of both operands, the carry into it, and the digits below. -/
def addDigit (a b k cy r : Nat) : Nat :=
  (a &&& (0xF <<< (4 * k))) + (b &&& (0xF <<< (4 * k))) + (cy <<< (4 * k)) + r % 16 ^ k

/-- The digit loop of R283 from digit k on, `todo` digits to go; the top digit is left unadjusted. -/
def addDigits (a b : Nat) : (todo k cy r : Nat) → Nat
  | 0, _, _, r => r
  | 1, k, cy, r => addDigit a b k cy r
  | n + 2, k, cy, r =>
    let r1 := addDigit a b k cy r
    let r2 := if bcdLimit k < r1 then r1 + 6 * 16 ^ k else r1
    addDigits a b (n + 1) (k + 1) (if 16 ^ (k + 1) - 1 < r2 then 1 else 0) r2

/-- `(~(a ^ b)) & (a ^ r)` at bit w-1 (R283): both operands have one sign and the result the other. -/
def overflowBit (w : Width) (a b r : Nat) : Bool :=
  (a.testBit (w.bits - 1) == b.testBit (w.bits - 1)) && (a.testBit (w.bits - 1) != r.testBit (w.bits - 1))

/-- `AddCore(w, a, b, cin, dec)` (R283), on the low w bits of the operands. In decimal mode the overflow is that of the
partially adjusted sum, as R270 and R283 say, and not that of the binary sum, as R47 says (log entry 17, DEDUCED). -/
def addCore (w : Width) (a b : Word) (cin dec : Bool) : AluOut :=
  let x := (w.trunc a).toNat
  let y := (w.trunc b).toNat
  let r := if dec then addDigits x y (w.bits / 4) 0 cin.toNat 0 else x + y + cin.toNat
  let q := if dec && decide (bcdLimit (w.bits / 4 - 1) < r) then r + 6 * 16 ^ (w.bits / 4 - 1) else r
  { value := BitVec.ofNat 16 (q % 2 ^ w.bits)
    carry := decide (2 ^ w.bits - 1 < q)
    overflow := overflowBit w x y r }

/-- One nibble of the decimal difference (R284); the running value may be negative, and `r & (16^k - 1)` takes its
two's-complement low digits (R11). -/
def subDigit (a bc k cy : Nat) (r : Int) : Int :=
  ((a &&& (0xF <<< (4 * k))) + (bc &&& (0xF <<< (4 * k))) + (cy <<< (4 * k)) : Nat) + r % 16 ^ k

/-- The digit loop of R284 from digit k on, `todo` digits to go; the top digit is left unadjusted. -/
def subDigits (a bc : Nat) : (todo k cy : Nat) → (r : Int) → Int
  | 0, _, _, r => r
  | 1, k, cy, r => subDigit a bc k cy r
  | n + 2, k, cy, r =>
    let r1 := subDigit a bc k cy r
    let r2 := if r1 ≤ 16 ^ (k + 1) - 1 then r1 - 6 * 16 ^ k else r1
    subDigits a bc (n + 1) (k + 1) (if 16 ^ (k + 1) - 1 < r2 then 1 else 0) r2

/-- `SubCore(w, a, b, cin, dec)` (R284), on the low w bits of the operands. In decimal mode the overflow is that of R284's
partially adjusted difference (log entry 17, DEDUCED). -/
def subCore (w : Width) (a b : Word) (cin dec : Bool) : AluOut :=
  let x := (w.trunc a).toNat
  let bc := (w.trunc (~~~b)).toNat
  let r : Int := if dec then subDigits x bc (w.bits / 4) 0 cin.toNat 0 else ((x + bc + cin.toNat : Nat) : Int)
  let q : Int := if dec && decide (r ≤ 2 ^ w.bits - 1) then r - 6 * 16 ^ (w.bits / 4 - 1) else r
  { value := BitVec.ofInt 16 (q % 2 ^ w.bits)
    carry := decide ((2 : Int) ^ w.bits - 1 < q)
    overflow := overflowBit w x bc (r % 2 ^ w.bits).toNat }

/-- ADC (R270): the sum and the flags n, v, z, c. -/
def adcOp (w : Width) (p : Flags) (a m : Word) : Word × Flags :=
  let o := addCore w a m p.c p.d
  (o.value, setNZ w o.value { p with c := o.carry, v := o.overflow })

/-- SBC (R271): the difference and the flags n, v, z, c. -/
def sbcOp (w : Width) (p : Flags) (a m : Word) : Word × Flags :=
  let o := subCore w a m p.c p.d
  (o.value, setNZ w o.value { p with c := o.carry, v := o.overflow })

/-- LDA (R200): the operand and its n, z. -/
def ldaOp (w : Width) (p : Flags) (_ m : Word) : Word × Flags := (m, setNZ w m p)

/-- AND (R300). -/
def andOp (w : Width) (p : Flags) (a m : Word) : Word × Flags := (a &&& m, setNZ w (a &&& m) p)

/-- ORA (R301). -/
def oraOp (w : Width) (p : Flags) (a m : Word) : Word × Flags := (a ||| m, setNZ w (a ||| m) p)

/-- EOR (R302). -/
def eorOp (w : Width) (p : Flags) (a m : Word) : Word × Flags := (a ^^^ m, setNZ w (a ^^^ m) p)

/-- CMP, CPX and CPY (R272 to R274): n and z of the difference, c set when the register is not below the operand. -/
def cmpOp (w : Width) (p : Flags) (a m : Word) : Flags :=
  setNZ w (a - m) { p with c := decide ((w.trunc m).toNat ≤ (w.trunc a).toNat) }

/-- BIT with an immediate (R303): z only. -/
def bitImmOp (w : Width) (p : Flags) (a m : Word) : Flags := { p with z := w.trunc (a &&& m) == 0 }

/-- BIT with a memory operand (R303): z, and n and v from the operand's top two bits. -/
def bitMemOp (w : Width) (p : Flags) (a m : Word) : Flags :=
  { p with z := w.trunc (a &&& m) == 0, n := w.msb m, v := w.msb2 m }

/-- INC (R275). -/
def incOp (w : Width) (p : Flags) (v : Word) : Word × Flags := (w.trunc (v + 1), setNZ w (v + 1) p)

/-- DEC (R278). -/
def decOp (w : Width) (p : Flags) (v : Word) : Word × Flags := (w.trunc (v - 1), setNZ w (v - 1) p)

/-- ASL (R306): a 0 enters bit 0, bit w-1 goes to c. -/
def aslOp (w : Width) (p : Flags) (v : Word) : Word × Flags :=
  (w.trunc (v <<< 1), setNZ w (v <<< 1) { p with c := w.msb v })

/-- LSR (R307): a 0 enters bit w-1, bit 0 goes to c. -/
def lsrOp (w : Width) (p : Flags) (v : Word) : Word × Flags :=
  (w.trunc v >>> 1, setNZ w (w.trunc v >>> 1) { p with c := v.getLsbD 0 })

/-- ROL (R308): the old c enters bit 0, bit w-1 goes to c. -/
def rolOp (w : Width) (p : Flags) (v : Word) : Word × Flags :=
  (w.trunc ((v <<< 1) ||| carryWord p.c), setNZ w ((v <<< 1) ||| carryWord p.c) { p with c := w.msb v })

/-- ROR (R309): the old c enters bit w-1, bit 0 goes to c. -/
def rorOp (w : Width) (p : Flags) (v : Word) : Word × Flags :=
  ((w.trunc v >>> 1) ||| w.topBit p.c, setNZ w ((w.trunc v >>> 1) ||| w.topBit p.c) { p with c := v.getLsbD 0 })

/-- TSB (R304): the accumulator's bits set in the operand; z tests the old operand. -/
def tsbOp (acc : Word) (w : Width) (p : Flags) (v : Word) : Word × Flags :=
  (v ||| acc, { p with z := w.trunc (acc &&& v) == 0 })

/-- TRB (R305): the accumulator's bits cleared in the operand; z tests the old operand. -/
def trbOp (acc : Word) (w : Width) (p : Flags) (v : Word) : Word × Flags :=
  (v &&& ~~~acc, { p with z := w.trunc (acc &&& v) == 0 })

/-- The condition a relative branch tests (R331 to R339). -/
inductive Cond where
  | carryClear
  | carrySet
  | equal
  | notEqual
  | minus
  | plus
  | overflowClear
  | overflowSet
  | always
deriving DecidableEq, Repr

/-- The condition holds of the flags (R331 to R339). -/
def Cond.holds : Cond → Flags → Bool
  | .carryClear, p    => !p.c
  | .carrySet, p      => p.c
  | .equal, p         => p.z
  | .notEqual, p      => !p.z
  | .minus, p         => p.n
  | .plus, p          => !p.n
  | .overflowClear, p => !p.v
  | .overflowSet, p   => p.v
  | .always, _        => true

end Sys2Proof.Machine
end

