-- ==== Sys2Proof/Machine/Memory.lean ====
section
/-! DEFINITION. Bytes in memory, the bus port Read8 and Write8 (spec R80, R82), and the multi-byte accesses built from
them (R83 to R87). -/

namespace Sys2Proof.Machine

/-- The byte memory holds at an address. -/
def Memory.read : Memory → Nat → Byte
  | [], _ => Config.unlistedByte
  | (k, w) :: m, a => if k = a then w else Memory.read m a

/-- Memory with one byte replaced, in canonical form: the byte an unlisted address reads as is not listed. -/
def Memory.write : Memory → Nat → Byte → Memory
  | [], a, v => if v = Config.unlistedByte then [] else [(a, v)]
  | (k, w) :: m, a, v =>
    if a < k then
      if v = Config.unlistedByte then (k, w) :: m else (a, v) :: (k, w) :: m
    else if a = k then
      if v = Config.unlistedByte then m else (k, v) :: m
    else (k, w) :: Memory.write m a v

/-- The canonical form from a lowest allowed address on: addresses strictly rise and stay below 2^24, and no cell holds
the byte an unlisted address reads as. -/
def Memory.wfFrom : Nat → Memory → Bool
  | _, [] => true
  | low, (k, w) :: m =>
    decide (low ≤ k) && decide (k < 16777216) && !(w == Config.unlistedByte) && Memory.wfFrom (k + 1) m

/-- The canonical form of memory. -/
def Memory.wf (m : Memory) : Bool := Memory.wfFrom 0 m

/-- What backs address `a`: the first region that holds it, and RAM where none does (R82, log entry 3). -/
def regionKind : List Region → Nat → BusKind
  | [], _ => .ram
  | r :: rs, a => if r.first ≤ a ∧ a ≤ r.last then r.kind else regionKind rs a

/-- What backs an address of this bus. -/
def Bus.kindAt (b : Bus) (a : Addr) : BusKind := regionKind b.regions a.toNat

/-- Bytes another agent of the bus puts into memory, in order; ROM keeps its image (R82, R95). -/
def agentCells (rs : List Region) : List (Addr × Byte) → Memory → Memory
  | [], m => m
  | (a, v) :: cs, m => agentCells rs cs (if regionKind rs a.toNat = .ram then m.write a.toNat v else m)

/-- `Read8(a)` (R80, R82): RAM and ROM answer the byte they hold, any other address answers a free value and moves the
bus on. The access is logged. -/
def Bus.read8 (a : Addr) (b : Bus) : Byte × Bus :=
  match b.kindAt a with
  | .device =>
    (Config.deviceRead b.devices a,
      { b with devices := Config.deviceAfterRead b.devices a, log := .read a (Config.deviceRead b.devices a) :: b.log })
  | .ram | .rom => (b.mem.read a.toNat, { b with log := .read a (b.mem.read a.toNat) :: b.log })

/-- `Write8(a, v)` (R80, R82): RAM takes the byte, ROM keeps its image, any other address takes the write as an event
that moves the bus on and may change bytes of memory (R95, log entry 4). The access is logged. -/
def Bus.write8 (a : Addr) (v : Byte) (b : Bus) : Bus :=
  match b.kindAt a with
  | .ram    => { b with mem := b.mem.write a.toNat v, log := .write a v :: b.log }
  | .rom    => { b with log := .write a v :: b.log }
  | .device =>
    { b with
      mem     := agentCells b.regions (Config.deviceWrite b.devices a v b.mem) b.mem
      devices := Config.deviceAfterWrite b.devices a v b.mem
      log     := .write a v :: b.log }

/-- A 16-bit read, lowest byte first (R83, R84). -/
def Bus.read16 (st : AddrStep) (a : Addr) (b : Bus) : Word × Bus :=
  let l := b.read8 a
  let h := l.2.read8 (st.next a)
  (pair h.1 l.1, h.2)

/-- A 24-bit pointer read, lowest byte first; the third byte is the bank (R83, R84). -/
def Bus.read24 (st : AddrStep) (a : Addr) (b : Bus) : Addr × Bus :=
  let o := b.read16 st a
  let k := o.2.read8 (st.next (st.next a))
  (mkAddr k.1 o.1, k.2)

/-- `MemRead(a, w/8, step)` (R84), zero-extended to 16 bits. -/
def Bus.readW (w : Width) (st : AddrStep) (a : Addr) (b : Bus) : Word × Bus :=
  match w with
  | .w8  => (zext16 (b.read8 a).1, (b.read8 a).2)
  | .w16 => b.read16 st a

/-- `MemWrite(a, w/8, v, step)`: the low byte first (R85). -/
def Bus.writeW (w : Width) (st : AddrStep) (a : Addr) (v : Word) (b : Bus) : Bus :=
  match w with
  | .w8  => b.write8 a (lo v)
  | .w16 => (b.write8 a (lo v)).write8 (st.next a) (hi v)

/-- `MemWriteRMW(a, w/8, v, step)`: the high byte first (R86). -/
def Bus.writeRmw (w : Width) (st : AddrStep) (a : Addr) (v : Word) (b : Bus) : Bus :=
  match w with
  | .w8  => b.write8 a (lo v)
  | .w16 => (b.write8 (st.next a) (hi v)).write8 a (lo v)

/-- The byte RAM or ROM holds at an address, read without a bus access (R548): what statements say of memory. -/
def State.peek (s : State) (a : Addr) : Byte := s.bus.mem.read a.toNat

/-- The address reads back what memory holds: it is RAM or ROM, no oracle. -/
def State.backed (s : State) (a : Addr) : Bool := !(s.bus.kindAt a == .device)

/-- The address takes a written byte: it is RAM. -/
def State.ram (s : State) (a : Addr) : Bool := s.bus.kindAt a == .ram

/-- The accesses of the last Step, oldest first (R80). -/
def State.trace (s : State) : List BusAccess := s.bus.log.reverse

/-- `Read8(a)` on the state. -/
def read8 (a : Addr) (s : State) : Byte × State := ((s.bus.read8 a).1, s.withBus (s.bus.read8 a).2)

/-- `Write8(a, v)` on the state. -/
def write8 (a : Addr) (v : Byte) (s : State) : State := s.withBus (s.bus.write8 a v)

/-- A 16-bit read on the state. -/
def read16 (st : AddrStep) (a : Addr) (s : State) : Word × State :=
  ((s.bus.read16 st a).1, s.withBus (s.bus.read16 st a).2)

/-- A 24-bit pointer read on the state. -/
def read24 (st : AddrStep) (a : Addr) (s : State) : Addr × State :=
  ((s.bus.read24 st a).1, s.withBus (s.bus.read24 st a).2)

/-- An operand's effective address and the address step of its further bytes (40_addressing_modes.md). -/
structure EA where
  addr : Addr
  step : AddrStep
deriving DecidableEq, Repr

/-- The operand of width `w` at an effective address. -/
def memRead (w : Width) (ea : EA) (s : State) : Word × State :=
  ((s.bus.readW w ea.step ea.addr).1, s.withBus (s.bus.readW w ea.step ea.addr).2)

/-- A store of width `w` at an effective address (R85). -/
def memWrite (w : Width) (ea : EA) (v : Word) (s : State) : State :=
  s.withBus (s.bus.writeW w ea.step ea.addr v)

/-- The write-back of a read-modify-write instruction (R86). -/
def memWriteRmw (w : Width) (ea : EA) (v : Word) (s : State) : State :=
  s.withBus (s.bus.writeRmw w ea.step ea.addr v)

end Sys2Proof.Machine
end

