-- ==== Sys2Proof/Machine/Ops.lean ====
section
/-! DEFINITION. The named operations over registers and the stack, taking an exception and returning from one, and the
reset sequence (spec R33 to R44, R88 to R90, R395, R520, R521, R600). -/

namespace Sys2Proof.Machine

/-- `mw` (R44). -/
def State.mw (s : State) : Width := widthOf s.p.m

/-- `xw` (R44). -/
def State.xw (s : State) : Width := widthOf s.p.x

/-- `Acc` (R44): A zero-extended, or the whole of C. -/
def State.acc (s : State) : Word := s.mw.trunc s.c

/-- `SetAcc(v)` (R44): with m = 1 only A is written and B keeps its value. -/
def State.setAcc (v : Word) (s : State) : State :=
  s.withC (match s.mw with
    | .w8  => pair (hi s.c) (lo v)
    | .w16 => v)

/-- `SetX(v)` (R44): with x = 1 the high byte is 0. -/
def State.setX (v : Word) (s : State) : State := s.withX (s.xw.trunc v)

/-- `SetY(v)` (R44): with x = 1 the high byte is 0. -/
def State.setY (v : Word) (s : State) : State := s.withY (s.xw.trunc v)

/-- `SetNZ(v, w)` on the state (R45). -/
def State.nz (w : Width) (v : Word) (s : State) : State := s.withP (setNZ w v s.p)

/-- A write of S by TXS or TCS (R227, R228): in emulation mode S[15:8] stays 0x01 (R35). -/
def State.setS (v : Word) (s : State) : State := s.withSP (if s.e then pair 0x01 (lo v) else v)

/-- An index register once x is 1: its high byte is lost (R54). -/
def narrowIndex (x : Bool) (v : Word) : Word := if x then zext16 (lo v) else v

/-- New flags with the consequence R41 and R54 give a set x: X[15:8] and Y[15:8] are cleared. -/
def State.setFlags (p : Flags) (s : State) : State :=
  ((s.withP p).withX (narrowIndex p.x s.x)).withY (narrowIndex p.x s.y)

/-- `SetP(b)` (R41). -/
def State.setP (b : Byte) (s : State) : State := s.setFlags (flagsOfByte s.e b)

/-! The stack (R88 to R90). `lin` says that the access is linear in emulation mode too. -/

/-- The opcode `op` is in `EMU_LINEAR_STACK_OPS` (R90). -/
def State.linear (op : Byte) (s : State) : Bool := s.params.linearStackOps.contains op

/-- S after a push: in emulation mode it wraps in page 1 unless the access is linear (R88). -/
def stackDown (e lin : Bool) (v : Word) : Word := if e && !lin then pair (hi v) (lo v - 1) else v - 1

/-- S before a pull's read: in emulation mode it wraps in page 1 unless the access is linear (R88). -/
def stackUp (e lin : Bool) (v : Word) : Word := if e && !lin then pair (hi v) (lo v + 1) else v + 1

/-- `Push8(v)` (R88). -/
def push8 (lin : Bool) (v : Byte) (s : State) : State :=
  (write8 (bank0 s.sp) v s).withSP (stackDown s.e lin s.sp)

/-- `Pull8()` (R88). -/
def pull8 (lin : Bool) (s : State) : Byte × State :=
  read8 (bank0 (stackUp s.e lin s.sp)) (s.withSP (stackUp s.e lin s.sp))

/-- `Push16(v)`: the high byte first (R88). -/
def push16 (lin : Bool) (v : Word) (s : State) : State := push8 lin (lo v) (push8 lin (hi v) s)

/-- `Pull16()`: the low byte first (R88). -/
def pull16 (lin : Bool) (s : State) : Word × State :=
  let l := pull8 lin s
  let h := pull8 lin l.2
  (pair h.1 l.1, h.2)

/-- The push of a register whose width follows m or x (R240 to R242). -/
def pushW (lin : Bool) (w : Width) (v : Word) (s : State) : State :=
  match w with
  | .w8  => push8 lin (lo v) s
  | .w16 => push16 lin v s

/-- The pull of a register whose width follows m or x, zero-extended (R250, R251, R254). -/
def pullW (lin : Bool) (w : Width) (s : State) : Word × State :=
  match w with
  | .w8  => (zext16 (pull8 lin s).1, (pull8 lin s).2)
  | .w16 => pull16 lin s

/-! Exceptions (R500, R520, R521). -/

/-- The exceptional events that run the entry sequence of R520; RESET has its own (R600). -/
inductive Interrupt where
  | nmi
  | irq
  | brk
  | cop
deriving DecidableEq, Repr

/-- `Vector(kind, E)` (R521): the offset in bank 0 of the handler's address. -/
def Interrupt.vector : Interrupt → Bool → Word
  | .cop, false => 0xFFE4
  | .cop, true  => 0xFFF4
  | .brk, false => 0xFFE6
  | .brk, true  => 0xFFFE
  | .nmi, false => 0xFFEA
  | .nmi, true  => 0xFFFA
  | .irq, false => 0xFFEE
  | .irq, true  => 0xFFFE

/-- The B flag the entry pushes in emulation mode (R500). -/
def Interrupt.bflag : Interrupt → Bool
  | .nmi => false
  | .irq => false
  | .brk => true
  | .cop => true

/-- The entry clears `nmi_pending` when it takes the NMI, and only then (R505, R520). -/
def Interrupt.pendingAfter : Interrupt → Bool → Bool
  | .nmi, _ => false
  | .irq, v => v
  | .brk, v => v
  | .cop, v => v

/-- The frame the entry pushes (R520): PB in native mode only, then PCH, PCL and P. Never linear (R88). -/
def pushFrame (bflag : Bool) (s : State) : State :=
  let s1 := if s.e then s else push8 false s.pb s
  push8 false (pByte s.e bflag s.p) (push16 false s.pc s1)

/-- Taking an exception: `Interrupt(kind)` (R520). PC is the return offset when it runs. -/
def takeInterrupt (k : Interrupt) (s : State) : State :=
  let s1 := pushFrame k.bflag (s.withNmiPending (k.pendingAfter s.nmiPending))
  let s2 := ((s1.withP { s1.p with i := true, d := false }).withIPoll true).withPB 0x00
  let v := read16 .bank (bank0 (k.vector s.e)) s2
  (v.2.withPC v.1).withRun .running

/-- Returning from an exception: RTI (R395). Never linear in emulation mode. -/
def returnFromInterrupt (s : State) : State :=
  let b := pull8 false s
  let a := pull16 false (b.2.setP b.1)
  let s1 := a.2.withPC a.1
  if s.e then s1 else
    let k := pull8 false s1
    k.2.withPB k.1

/-- The flags after a reset (R600): m, x and i are 1 and d is 0; a hard reset leaves n, v, z and c unspecified, and
they take the named value of log entry 1; a soft reset keeps them. -/
def resetFlags (k : ResetKind) (p : Flags) : Flags :=
  match k with
  | .hard => { n := Config.resetFlag, v := Config.resetFlag, m := true, x := true, d := false, i := true
               z := Config.resetFlag, c := Config.resetFlag }
  | .soft => { p with m := true, x := true, d := false, i := true }

/-- `Reset(kind)` (R600). The register bytes the spec leaves unknown take the values log entry 1 names. -/
def resetSequence (k : ResetKind) (s : State) : State :=
  let cut (v : Word) : Word :=
    match k with
    | .hard => zext16 Config.resetByte
    | .soft => zext16 (lo v)
  let c1 : Word :=
    match k with
    | .hard => pair Config.resetByte Config.resetByte
    | .soft => s.c
  let s1 : State :=
    { s with
      c := c1, x := cut s.x, y := cut s.y, sp := pair 0x01 Config.resetStackLow
      d := 0x0000, db := 0x00, pb := 0x00, p := resetFlags k s.p, e := true, iPoll := true
      nmiPending := false, resetPending := false, run := .running }
  let v := read16 .bank (bank0 0xFFFC) s1
  v.2.withPC v.1

/-- The end of an instruction executed with E = 1: S[15:8] is forced back to 0x01 (R90, R630). -/
def forcePageOne (s : State) : State := s.withSP (if s.e then pair 0x01 (lo s.sp) else s.sp)

end Sys2Proof.Machine
end

