-- ==== Sys2Proof/Machine/Operands.lean ====
section
/-! DEFINITION. The addressing modes (40_addressing_modes.md, spec R150 to R183): each gives the effective address and
the address step of the operand, and makes the pointer reads of the mode, in order. -/

namespace Sys2Proof.Machine

/-- `legacy_page` (R151). -/
def State.legacyPage (s : State) : Bool := s.e && (lo s.d == 0x00)

/-- `dp(d, idx)` (R151): in bank 0, within the page under `legacy_page`, within the bank otherwise. -/
def dpAddr (s : State) (d : Byte) (idx : Word) : Addr :=
  if s.legacyPage then bank0 (pair (hi s.d) (lo (zext16 d + idx))) else bank0 (s.d + zext16 d + idx)

/-- `dp_step` (R151). -/
def dpStep (s : State) : AddrStep := if s.legacyPage then .page else .bank

/-- `ptr_step(op, ·)` (R152). -/
def ptrStep (op : Byte) (s : State) : AddrStep := if s.params.linearDpOps.contains op then .bank else dpStep s

/-- An index register added to a 24-bit address (R153). -/
def addIndex (a : Addr) (idx : Word) : Addr := a + idx.setWidth 24

/-- `d` (R161). -/
def eaDp (d : Byte) (s : State) : EA × State := (⟨dpAddr s d 0, dpStep s⟩, s)

/-- `d,X` (R162). -/
def eaDpX (d : Byte) (s : State) : EA × State := (⟨dpAddr s d s.x, dpStep s⟩, s)

/-- `d,Y` (R163). -/
def eaDpY (d : Byte) (s : State) : EA × State := (⟨dpAddr s d s.y, dpStep s⟩, s)

/-- The 16-bit pointer of the direct-page indirect modes. -/
def dpPointer (d : Byte) (idx : Word) (s : State) : Word × State := read16 (dpStep s) (dpAddr s d idx) s

/-- `(d)` (R164). -/
def eaDpInd (d : Byte) (s : State) : EA × State :=
  let p := dpPointer d 0 s
  (⟨mkAddr s.db p.1, .long⟩, p.2)

/-- `(d,X)` (R165). -/
def eaDpIndX (d : Byte) (s : State) : EA × State :=
  let p := dpPointer d s.x s
  (⟨mkAddr s.db p.1, .long⟩, p.2)

/-- `(d),Y` (R166). -/
def eaDpIndY (d : Byte) (s : State) : EA × State :=
  let p := dpPointer d 0 s
  (⟨addIndex (mkAddr s.db p.1) s.y, .long⟩, p.2)

/-- The 24-bit pointer of `[d]`, whose first byte is never page-wrapped (R167). -/
def dpLongPointer (op d : Byte) (s : State) : Addr × State :=
  read24 (ptrStep op s) (bank0 (s.d + zext16 d)) s

/-- `[d]` (R167). -/
def eaDpIndL (op d : Byte) (s : State) : EA × State :=
  let p := dpLongPointer op d s
  (⟨p.1, .long⟩, p.2)

/-- `[d],Y` (R168). -/
def eaDpIndLY (op d : Byte) (s : State) : EA × State :=
  let p := dpLongPointer op d s
  (⟨addIndex p.1 s.y, .long⟩, p.2)

/-- `a` for data (R169). -/
def eaAbs (a : Word) (s : State) : EA × State := (⟨mkAddr s.db a, .long⟩, s)

/-- `a,X` (R170). -/
def eaAbsX (a : Word) (s : State) : EA × State := (⟨addIndex (mkAddr s.db a) s.x, .long⟩, s)

/-- `a,Y` (R171). -/
def eaAbsY (a : Word) (s : State) : EA × State := (⟨addIndex (mkAddr s.db a) s.y, .long⟩, s)

/-- `al` (R172). -/
def eaAbsL (al : Addr) (s : State) : EA × State := (⟨al, .long⟩, s)

/-- `al,X` (R173). -/
def eaAbsLX (al : Addr) (s : State) : EA × State := (⟨addIndex al s.x, .long⟩, s)

/-- `n,S` (R174): no page wrap, even in emulation mode. -/
def eaSr (n : Byte) (s : State) : EA × State := (⟨bank0 (s.sp + zext16 n), .bank⟩, s)

/-- `(n,S),Y` (R175). -/
def eaSrIndY (n : Byte) (s : State) : EA × State :=
  let p := read16 .bank (bank0 (s.sp + zext16 n)) s
  (⟨addIndex (mkAddr s.db p.1) s.y, .long⟩, p.2)

/-- `r` (R176): PC is the offset of the next instruction. -/
def relTarget (r : Byte) (s : State) : Word := s.pc + sext16 r

/-- `rl` (R177): PC is the offset of the next instruction. -/
def relLongTarget (rl : Word) (s : State) : Word := s.pc + rl

/-- `(a)` of JMP: the pointer is in bank 0 (R178). -/
def absIndTarget (a : Word) (s : State) : Word × State := read16 .bank (bank0 a) s

/-- `(a,X)` of JMP and JSR: the pointer is in the program bank (R179). -/
def absIndXTarget (a : Word) (s : State) : Word × State := read16 .bank (mkAddr s.pb (a + s.x)) s

/-- `[a]` of JML: the 24-bit pointer is in bank 0 (R180). -/
def absIndLTarget (a : Word) (s : State) : Addr × State := read24 .bank (bank0 a) s

/-- The value PEI pushes (R183). -/
def peiValue (op d : Byte) (s : State) : Word × State := read16 (ptrStep op s) (dpAddr s d 0) s

/-- An immediate operand at the width of the instruction (R160). -/
def immOperand (w : State → Width) (v : Imm) (s : State) : Word × State := ((w s).trunc v.value, s)

/-- A memory operand at the width of the instruction: the mode's reads, then the data access. -/
def memOperand (w : State → Width) (ea : State → EA × State) (s : State) : Word × State :=
  let a := ea s
  memRead (w s) a.1 a.2

end Sys2Proof.Machine
end

