-- ==== Sys2Proof/Machine/Shapes.lean ====
section
/-! DEFINITION. The shapes instructions share: an accumulator operation with an operand, a test, a load, a store, a
read-modify-write, a branch. Each instruction's own definition, in its family's file, is one of these shapes with its
operation and its addressing mode. -/

namespace Sys2Proof.Machine

/-- An operation on the accumulator and an operand of width mw: the operand is read before the result is written (R291). -/
def accOp (f : Width → Flags → Word → Word → Word × Flags) (operand : State → Word × State) (s : State) : State :=
  let m := operand s
  let r := f s.mw s.p s.acc m.1
  (m.2.setAcc r.1).withP r.2

/-- A test of the accumulator against an operand of width mw: flags only. -/
def accTest (f : Width → Flags → Word → Word → Flags) (operand : State → Word × State) (s : State) : State :=
  let m := operand s
  m.2.withP (f s.mw s.p s.acc m.1)

/-- A comparison of an index register with an operand of width xw: flags only (R273, R274). -/
def indexTest (reg : State → Word) (operand : State → Word × State) (s : State) : State :=
  let m := operand s
  m.2.withP (cmpOp s.xw s.p (reg s) m.1)

/-- A value into X at width xw, with its n and z. -/
def toX (v : Word) (s : State) : State := (s.setX v).nz s.xw v

/-- A value into Y at width xw, with its n and z. -/
def toY (v : Word) (s : State) : State := (s.setY v).nz s.xw v

/-- A value into the accumulator at width mw, with its n and z. -/
def toAcc (v : Word) (s : State) : State := (s.setAcc v).nz s.mw v

/-- LDX (R201): the operand into X. -/
def loadX (operand : State → Word × State) (s : State) : State := toX (operand s).1 (operand s).2

/-- LDY (R202): the operand into Y. -/
def loadY (operand : State → Word × State) (s : State) : State := toY (operand s).1 (operand s).2

/-- PLA (R254): the operand into the accumulator. -/
def loadAcc (operand : State → Word × State) (s : State) : State := toAcc (operand s).1 (operand s).2

/-- A store of a register, or of zero, at the width of the instruction (R203 to R206). -/
def store (w : State → Width) (reg : State → Word) (ea : State → EA × State) (s : State) : State :=
  let a := ea s
  memWrite (w s) a.1 (reg s) a.2

/-- A read-modify-write of memory at width mw (R86). -/
def modifyMem (f : Width → Flags → Word → Word × Flags) (ea : State → EA × State) (s : State) : State :=
  let a := ea s
  let v := memRead s.mw a.1 a.2
  let r := f s.mw s.p v.1
  (memWriteRmw s.mw a.1 r.1 v.2).withP r.2

/-- The accumulator form of a read-modify-write (R150). -/
def modifyAcc (f : Width → Flags → Word → Word × Flags) (s : State) : State :=
  let r := f s.mw s.p s.acc
  (s.setAcc r.1).withP r.2

/-- A relative branch (R330). -/
def branch (k : Cond) (r : Byte) (s : State) : State :=
  s.withPC (if k.holds s.p then relTarget r s else s.pc)

/-- One byte of a block move (R402): `delta` is 1 for MVN and -1 for MVP, `t` the destination bank, `u` the source bank. -/
def blockStep (delta : Word) (t u : Byte) (s : State) : State :=
  let v := read8 (mkAddr u s.x) (s.withDB t)
  let s1 := write8 (mkAddr t s.y) v.1 v.2
  let s2 := ((s1.setX (s.x + delta)).setY (s.y + delta)).withC (s.c - 1)
  s2.withPC (if s2.c == 0xFFFF then s.pc else s.pc - 3)

end Sys2Proof.Machine
end

