-- ==== Sys2Proof/Machine/Arithmetic.lean ====
section
/-! DEFINITION. Arithmetic instructions (44_arithmetic.md, spec R270 to R280). -/

namespace Sys2Proof.Machine

/-- ADC (d,X), 0x61 (R270, R165). -/
def execAdcDpIndX (d : Byte) (s : State) : Result := .next (accOp adcOp (memOperand State.mw (eaDpIndX d)) s)

/-- ADC d,S, 0x63 (R270, R174). -/
def execAdcSr (n : Byte) (s : State) : Result := .next (accOp adcOp (memOperand State.mw (eaSr n)) s)

/-- ADC d, 0x65 (R270, R161). -/
def execAdcDp (d : Byte) (s : State) : Result := .next (accOp adcOp (memOperand State.mw (eaDp d)) s)

/-- ADC [d], 0x67 (R270, R167). -/
def execAdcDpIndL (d : Byte) (s : State) : Result := .next (accOp adcOp (memOperand State.mw (eaDpIndL 0x67 d)) s)

/-- ADC #const, 0x69 (R270, R160). -/
def execAdcImm (v : Imm) (s : State) : Result := .next (accOp adcOp (immOperand State.mw v) s)

/-- ADC a, 0x6D (R270, R169). -/
def execAdcAbs (a : Word) (s : State) : Result := .next (accOp adcOp (memOperand State.mw (eaAbs a)) s)

/-- ADC al, 0x6F (R270, R172). -/
def execAdcAbsL (al : Addr) (s : State) : Result := .next (accOp adcOp (memOperand State.mw (eaAbsL al)) s)

/-- ADC (d),Y, 0x71 (R270, R166). -/
def execAdcDpIndY (d : Byte) (s : State) : Result := .next (accOp adcOp (memOperand State.mw (eaDpIndY d)) s)

/-- ADC (d), 0x72 (R270, R164). -/
def execAdcDpInd (d : Byte) (s : State) : Result := .next (accOp adcOp (memOperand State.mw (eaDpInd d)) s)

/-- ADC (d,S),Y, 0x73 (R270, R175). -/
def execAdcSrIndY (n : Byte) (s : State) : Result := .next (accOp adcOp (memOperand State.mw (eaSrIndY n)) s)

/-- ADC d,X, 0x75 (R270, R162). -/
def execAdcDpX (d : Byte) (s : State) : Result := .next (accOp adcOp (memOperand State.mw (eaDpX d)) s)

/-- ADC [d],Y, 0x77 (R270, R168). -/
def execAdcDpIndLY (d : Byte) (s : State) : Result := .next (accOp adcOp (memOperand State.mw (eaDpIndLY 0x77 d)) s)

/-- ADC a,Y, 0x79 (R270, R171). -/
def execAdcAbsY (a : Word) (s : State) : Result := .next (accOp adcOp (memOperand State.mw (eaAbsY a)) s)

/-- ADC a,X, 0x7D (R270, R170). -/
def execAdcAbsX (a : Word) (s : State) : Result := .next (accOp adcOp (memOperand State.mw (eaAbsX a)) s)

/-- ADC al,X, 0x7F (R270, R173). -/
def execAdcAbsLX (al : Addr) (s : State) : Result := .next (accOp adcOp (memOperand State.mw (eaAbsLX al)) s)

/-- SBC (d,X), 0xE1 (R271, R165). -/
def execSbcDpIndX (d : Byte) (s : State) : Result := .next (accOp sbcOp (memOperand State.mw (eaDpIndX d)) s)

/-- SBC d,S, 0xE3 (R271, R174). -/
def execSbcSr (n : Byte) (s : State) : Result := .next (accOp sbcOp (memOperand State.mw (eaSr n)) s)

/-- SBC d, 0xE5 (R271, R161). -/
def execSbcDp (d : Byte) (s : State) : Result := .next (accOp sbcOp (memOperand State.mw (eaDp d)) s)

/-- SBC [d], 0xE7 (R271, R167). -/
def execSbcDpIndL (d : Byte) (s : State) : Result := .next (accOp sbcOp (memOperand State.mw (eaDpIndL 0xE7 d)) s)

/-- SBC #const, 0xE9 (R271, R160). -/
def execSbcImm (v : Imm) (s : State) : Result := .next (accOp sbcOp (immOperand State.mw v) s)

/-- SBC a, 0xED (R271, R169). -/
def execSbcAbs (a : Word) (s : State) : Result := .next (accOp sbcOp (memOperand State.mw (eaAbs a)) s)

/-- SBC al, 0xEF (R271, R172). -/
def execSbcAbsL (al : Addr) (s : State) : Result := .next (accOp sbcOp (memOperand State.mw (eaAbsL al)) s)

/-- SBC (d),Y, 0xF1 (R271, R166). -/
def execSbcDpIndY (d : Byte) (s : State) : Result := .next (accOp sbcOp (memOperand State.mw (eaDpIndY d)) s)

/-- SBC (d), 0xF2 (R271, R164). -/
def execSbcDpInd (d : Byte) (s : State) : Result := .next (accOp sbcOp (memOperand State.mw (eaDpInd d)) s)

/-- SBC (d,S),Y, 0xF3 (R271, R175). -/
def execSbcSrIndY (n : Byte) (s : State) : Result := .next (accOp sbcOp (memOperand State.mw (eaSrIndY n)) s)

/-- SBC d,X, 0xF5 (R271, R162). -/
def execSbcDpX (d : Byte) (s : State) : Result := .next (accOp sbcOp (memOperand State.mw (eaDpX d)) s)

/-- SBC [d],Y, 0xF7 (R271, R168). -/
def execSbcDpIndLY (d : Byte) (s : State) : Result := .next (accOp sbcOp (memOperand State.mw (eaDpIndLY 0xF7 d)) s)

/-- SBC a,Y, 0xF9 (R271, R171). -/
def execSbcAbsY (a : Word) (s : State) : Result := .next (accOp sbcOp (memOperand State.mw (eaAbsY a)) s)

/-- SBC a,X, 0xFD (R271, R170). -/
def execSbcAbsX (a : Word) (s : State) : Result := .next (accOp sbcOp (memOperand State.mw (eaAbsX a)) s)

/-- SBC al,X, 0xFF (R271, R173). -/
def execSbcAbsLX (al : Addr) (s : State) : Result := .next (accOp sbcOp (memOperand State.mw (eaAbsLX al)) s)

/-- CMP (d,X), 0xC1 (R272, R165). -/
def execCmpDpIndX (d : Byte) (s : State) : Result := .next (accTest cmpOp (memOperand State.mw (eaDpIndX d)) s)

/-- CMP d,S, 0xC3 (R272, R174). -/
def execCmpSr (n : Byte) (s : State) : Result := .next (accTest cmpOp (memOperand State.mw (eaSr n)) s)

/-- CMP d, 0xC5 (R272, R161). -/
def execCmpDp (d : Byte) (s : State) : Result := .next (accTest cmpOp (memOperand State.mw (eaDp d)) s)

/-- CMP [d], 0xC7 (R272, R167). -/
def execCmpDpIndL (d : Byte) (s : State) : Result := .next (accTest cmpOp (memOperand State.mw (eaDpIndL 0xC7 d)) s)

/-- CMP #const, 0xC9 (R272, R160). -/
def execCmpImm (v : Imm) (s : State) : Result := .next (accTest cmpOp (immOperand State.mw v) s)

/-- CMP a, 0xCD (R272, R169). -/
def execCmpAbs (a : Word) (s : State) : Result := .next (accTest cmpOp (memOperand State.mw (eaAbs a)) s)

/-- CMP al, 0xCF (R272, R172). -/
def execCmpAbsL (al : Addr) (s : State) : Result := .next (accTest cmpOp (memOperand State.mw (eaAbsL al)) s)

/-- CMP (d),Y, 0xD1 (R272, R166). -/
def execCmpDpIndY (d : Byte) (s : State) : Result := .next (accTest cmpOp (memOperand State.mw (eaDpIndY d)) s)

/-- CMP (d), 0xD2 (R272, R164). -/
def execCmpDpInd (d : Byte) (s : State) : Result := .next (accTest cmpOp (memOperand State.mw (eaDpInd d)) s)

/-- CMP (d,S),Y, 0xD3 (R272, R175). -/
def execCmpSrIndY (n : Byte) (s : State) : Result := .next (accTest cmpOp (memOperand State.mw (eaSrIndY n)) s)

/-- CMP d,X, 0xD5 (R272, R162). -/
def execCmpDpX (d : Byte) (s : State) : Result := .next (accTest cmpOp (memOperand State.mw (eaDpX d)) s)

/-- CMP [d],Y, 0xD7 (R272, R168). -/
def execCmpDpIndLY (d : Byte) (s : State) : Result := .next (accTest cmpOp (memOperand State.mw (eaDpIndLY 0xD7 d)) s)

/-- CMP a,Y, 0xD9 (R272, R171). -/
def execCmpAbsY (a : Word) (s : State) : Result := .next (accTest cmpOp (memOperand State.mw (eaAbsY a)) s)

/-- CMP a,X, 0xDD (R272, R170). -/
def execCmpAbsX (a : Word) (s : State) : Result := .next (accTest cmpOp (memOperand State.mw (eaAbsX a)) s)

/-- CMP al,X, 0xDF (R272, R173). -/
def execCmpAbsLX (al : Addr) (s : State) : Result := .next (accTest cmpOp (memOperand State.mw (eaAbsLX al)) s)

/-- CPX #const, 0xE0 (R273, R160). -/
def execCpxImm (v : Imm) (s : State) : Result := .next (indexTest State.x (immOperand State.xw v) s)

/-- CPX d, 0xE4 (R273, R161). -/
def execCpxDp (d : Byte) (s : State) : Result := .next (indexTest State.x (memOperand State.xw (eaDp d)) s)

/-- CPX a, 0xEC (R273, R169). -/
def execCpxAbs (a : Word) (s : State) : Result := .next (indexTest State.x (memOperand State.xw (eaAbs a)) s)

/-- CPY #const, 0xC0 (R274, R160). -/
def execCpyImm (v : Imm) (s : State) : Result := .next (indexTest State.y (immOperand State.xw v) s)

/-- CPY d, 0xC4 (R274, R161). -/
def execCpyDp (d : Byte) (s : State) : Result := .next (indexTest State.y (memOperand State.xw (eaDp d)) s)

/-- CPY a, 0xCC (R274, R169). -/
def execCpyAbs (a : Word) (s : State) : Result := .next (indexTest State.y (memOperand State.xw (eaAbs a)) s)

/-- INC A, 0x1A (R275). -/
def execIncAcc (s : State) : Result := .next (modifyAcc incOp s)

/-- INC d, 0xE6 (R275, R161). -/
def execIncDp (d : Byte) (s : State) : Result := .next (modifyMem incOp (eaDp d) s)

/-- INC a, 0xEE (R275, R169). -/
def execIncAbs (a : Word) (s : State) : Result := .next (modifyMem incOp (eaAbs a) s)

/-- INC d,X, 0xF6 (R275, R162). -/
def execIncDpX (d : Byte) (s : State) : Result := .next (modifyMem incOp (eaDpX d) s)

/-- INC a,X, 0xFE (R275, R170). -/
def execIncAbsX (a : Word) (s : State) : Result := .next (modifyMem incOp (eaAbsX a) s)

/-- INX, 0xE8 (R276). -/
def execInx (s : State) : Result := .next (toX (s.x + 1) s)

/-- INY, 0xC8 (R277). -/
def execIny (s : State) : Result := .next (toY (s.y + 1) s)

/-- DEC A, 0x3A (R278). -/
def execDecAcc (s : State) : Result := .next (modifyAcc decOp s)

/-- DEC d, 0xC6 (R278, R161). -/
def execDecDp (d : Byte) (s : State) : Result := .next (modifyMem decOp (eaDp d) s)

/-- DEC a, 0xCE (R278, R169). -/
def execDecAbs (a : Word) (s : State) : Result := .next (modifyMem decOp (eaAbs a) s)

/-- DEC d,X, 0xD6 (R278, R162). -/
def execDecDpX (d : Byte) (s : State) : Result := .next (modifyMem decOp (eaDpX d) s)

/-- DEC a,X, 0xDE (R278, R170). -/
def execDecAbsX (a : Word) (s : State) : Result := .next (modifyMem decOp (eaAbsX a) s)

/-- DEX, 0xCA (R279). -/
def execDex (s : State) : Result := .next (toX (s.x - 1) s)

/-- DEY, 0x88 (R280). -/
def execDey (s : State) : Result := .next (toY (s.y - 1) s)

end Sys2Proof.Machine
end

