-- ==== Sys2Proof/Machine/Control.lean ====
section
/-! DEFINITION. Branches, jumps, calls and returns (46_control.md, spec R330 to R350). PC is the offset of the next
instruction in sequence. -/

namespace Sys2Proof.Machine

/-- A jump within the program bank to a target that was read (R342, R343). -/
def jumpTo (t : Word × State) : State := t.2.withPC t.1

/-- A jump to a 24-bit target (R344, R345, R347). -/
def jumpLong (t : Addr × State) : State := (t.2.withPB (bankOf t.1)).withPC (offOf t.1)

/-- RTS (R350): PB is unchanged. -/
def returnShort (lin : Bool) (s : State) : State :=
  let t := pull16 lin s
  t.2.withPC (t.1 + 1)

/-- JSR (a,X) (R348): the push is made before the pointer is read. -/
def callIndirect (lin : Bool) (a : Word) (s : State) : State :=
  jumpTo (absIndXTarget a (push16 lin (s.pc - 1) s))

/-- RTL (R349): the increment does not carry into the bank. -/
def returnLong (lin : Bool) (s : State) : State :=
  let t := pull16 lin s
  let b := pull8 lin t.2
  (b.2.withPC (t.1 + 1)).withPB b.1

/-- BCC r, 0x90 (R331, R176). -/
def execBcc (r : Byte) (s : State) : Result := .next (branch .carryClear r s)

/-- BCS r, 0xB0 (R332, R176). -/
def execBcs (r : Byte) (s : State) : Result := .next (branch .carrySet r s)

/-- BEQ r, 0xF0 (R333, R176). -/
def execBeq (r : Byte) (s : State) : Result := .next (branch .equal r s)

/-- BNE r, 0xD0 (R334, R176). -/
def execBne (r : Byte) (s : State) : Result := .next (branch .notEqual r s)

/-- BMI r, 0x30 (R335, R176). -/
def execBmi (r : Byte) (s : State) : Result := .next (branch .minus r s)

/-- BPL r, 0x10 (R336, R176). -/
def execBpl (r : Byte) (s : State) : Result := .next (branch .plus r s)

/-- BVC r, 0x50 (R337, R176). -/
def execBvc (r : Byte) (s : State) : Result := .next (branch .overflowClear r s)

/-- BVS r, 0x70 (R338, R176). -/
def execBvs (r : Byte) (s : State) : Result := .next (branch .overflowSet r s)

/-- BRA r, 0x80 (R339, R176). -/
def execBra (r : Byte) (s : State) : Result := .next (branch .always r s)

/-- BRL rl, 0x82 (R340, R177). -/
def execBrl (rl : Word) (s : State) : Result := .next (s.withPC (relLongTarget rl s))

/-- JMP a, 0x4C (R341, R182). -/
def execJmpAbs (a : Word) (s : State) : Result := .next (s.withPC a)

/-- JMP (a), 0x6C (R342, R178). -/
def execJmpInd (a : Word) (s : State) : Result := .next (jumpTo (absIndTarget a s))

/-- JMP (a,X), 0x7C (R343, R179). -/
def execJmpIndX (a : Word) (s : State) : Result := .next (jumpTo (absIndXTarget a s))

/-- JML al, 0x5C (R344, R182). -/
def execJmlAbsL (al : Addr) (s : State) : Result := .next (jumpLong (al, s))

/-- JML [a], 0xDC (R345, R180). -/
def execJmlIndL (a : Word) (s : State) : Result := .next (jumpLong (absIndLTarget a s))

/-- JSR a, 0x20 (R346, R182). -/
def execJsrAbs (a : Word) (s : State) : Result := .next ((push16 (s.linear 0x20) (s.pc - 1) s).withPC a)

/-- JSR (a,X), 0xFC (R348, R179). -/
def execJsrIndX (a : Word) (s : State) : Result := .next (callIndirect (s.linear 0xFC) a s)

/-- JSL al, 0x22 (R347, R182). -/
def execJsl (al : Addr) (s : State) : Result := .next (jumpLong (al, push16 (s.linear 0x22) (s.pc - 1) (push8 (s.linear 0x22) s.pb s)))

/-- RTL, 0x6B (R349). -/
def execRtl (s : State) : Result := .next (returnLong (s.linear 0x6B) s)

/-- RTS, 0x60 (R350). -/
def execRts (s : State) : Result := .next (returnShort (s.linear 0x60) s)

end Sys2Proof.Machine
end

