-- ==== Sys2Proof/Machine/LoadStore.lean ====
section
/-! DEFINITION. Load and store instructions (41_load_store.md, spec R200 to R206). -/

namespace Sys2Proof.Machine

/-- LDA (d,X), 0xA1 (R200, R165). -/
def execLdaDpIndX (d : Byte) (s : State) : Result := .next (accOp ldaOp (memOperand State.mw (eaDpIndX d)) s)

/-- LDA d,S, 0xA3 (R200, R174). -/
def execLdaSr (n : Byte) (s : State) : Result := .next (accOp ldaOp (memOperand State.mw (eaSr n)) s)

/-- LDA d, 0xA5 (R200, R161). -/
def execLdaDp (d : Byte) (s : State) : Result := .next (accOp ldaOp (memOperand State.mw (eaDp d)) s)

/-- LDA [d], 0xA7 (R200, R167). -/
def execLdaDpIndL (d : Byte) (s : State) : Result := .next (accOp ldaOp (memOperand State.mw (eaDpIndL 0xA7 d)) s)

/-- LDA #const, 0xA9 (R200, R160). -/
def execLdaImm (v : Imm) (s : State) : Result := .next (accOp ldaOp (immOperand State.mw v) s)

/-- LDA a, 0xAD (R200, R169). -/
def execLdaAbs (a : Word) (s : State) : Result := .next (accOp ldaOp (memOperand State.mw (eaAbs a)) s)

/-- LDA al, 0xAF (R200, R172). -/
def execLdaAbsL (al : Addr) (s : State) : Result := .next (accOp ldaOp (memOperand State.mw (eaAbsL al)) s)

/-- LDA (d),Y, 0xB1 (R200, R166). -/
def execLdaDpIndY (d : Byte) (s : State) : Result := .next (accOp ldaOp (memOperand State.mw (eaDpIndY d)) s)

/-- LDA (d), 0xB2 (R200, R164). -/
def execLdaDpInd (d : Byte) (s : State) : Result := .next (accOp ldaOp (memOperand State.mw (eaDpInd d)) s)

/-- LDA (d,S),Y, 0xB3 (R200, R175). -/
def execLdaSrIndY (n : Byte) (s : State) : Result := .next (accOp ldaOp (memOperand State.mw (eaSrIndY n)) s)

/-- LDA d,X, 0xB5 (R200, R162). -/
def execLdaDpX (d : Byte) (s : State) : Result := .next (accOp ldaOp (memOperand State.mw (eaDpX d)) s)

/-- LDA [d],Y, 0xB7 (R200, R168). -/
def execLdaDpIndLY (d : Byte) (s : State) : Result := .next (accOp ldaOp (memOperand State.mw (eaDpIndLY 0xB7 d)) s)

/-- LDA a,Y, 0xB9 (R200, R171). -/
def execLdaAbsY (a : Word) (s : State) : Result := .next (accOp ldaOp (memOperand State.mw (eaAbsY a)) s)

/-- LDA a,X, 0xBD (R200, R170). -/
def execLdaAbsX (a : Word) (s : State) : Result := .next (accOp ldaOp (memOperand State.mw (eaAbsX a)) s)

/-- LDA al,X, 0xBF (R200, R173). -/
def execLdaAbsLX (al : Addr) (s : State) : Result := .next (accOp ldaOp (memOperand State.mw (eaAbsLX al)) s)

/-- LDX #const, 0xA2 (R201, R160). -/
def execLdxImm (v : Imm) (s : State) : Result := .next (loadX (immOperand State.xw v) s)

/-- LDX d, 0xA6 (R201, R161). -/
def execLdxDp (d : Byte) (s : State) : Result := .next (loadX (memOperand State.xw (eaDp d)) s)

/-- LDX a, 0xAE (R201, R169). -/
def execLdxAbs (a : Word) (s : State) : Result := .next (loadX (memOperand State.xw (eaAbs a)) s)

/-- LDX d,Y, 0xB6 (R201, R163). -/
def execLdxDpY (d : Byte) (s : State) : Result := .next (loadX (memOperand State.xw (eaDpY d)) s)

/-- LDX a,Y, 0xBE (R201, R171). -/
def execLdxAbsY (a : Word) (s : State) : Result := .next (loadX (memOperand State.xw (eaAbsY a)) s)

/-- LDY #const, 0xA0 (R202, R160). -/
def execLdyImm (v : Imm) (s : State) : Result := .next (loadY (immOperand State.xw v) s)

/-- LDY d, 0xA4 (R202, R161). -/
def execLdyDp (d : Byte) (s : State) : Result := .next (loadY (memOperand State.xw (eaDp d)) s)

/-- LDY a, 0xAC (R202, R169). -/
def execLdyAbs (a : Word) (s : State) : Result := .next (loadY (memOperand State.xw (eaAbs a)) s)

/-- LDY d,X, 0xB4 (R202, R162). -/
def execLdyDpX (d : Byte) (s : State) : Result := .next (loadY (memOperand State.xw (eaDpX d)) s)

/-- LDY a,X, 0xBC (R202, R170). -/
def execLdyAbsX (a : Word) (s : State) : Result := .next (loadY (memOperand State.xw (eaAbsX a)) s)

/-- STA (d,X), 0x81 (R203, R165). -/
def execStaDpIndX (d : Byte) (s : State) : Result := .next (store State.mw State.c (eaDpIndX d) s)

/-- STA d,S, 0x83 (R203, R174). -/
def execStaSr (n : Byte) (s : State) : Result := .next (store State.mw State.c (eaSr n) s)

/-- STA d, 0x85 (R203, R161). -/
def execStaDp (d : Byte) (s : State) : Result := .next (store State.mw State.c (eaDp d) s)

/-- STA [d], 0x87 (R203, R167). -/
def execStaDpIndL (d : Byte) (s : State) : Result := .next (store State.mw State.c (eaDpIndL 0x87 d) s)

/-- STA a, 0x8D (R203, R169). -/
def execStaAbs (a : Word) (s : State) : Result := .next (store State.mw State.c (eaAbs a) s)

/-- STA al, 0x8F (R203, R172). -/
def execStaAbsL (al : Addr) (s : State) : Result := .next (store State.mw State.c (eaAbsL al) s)

/-- STA (d),Y, 0x91 (R203, R166). -/
def execStaDpIndY (d : Byte) (s : State) : Result := .next (store State.mw State.c (eaDpIndY d) s)

/-- STA (d), 0x92 (R203, R164). -/
def execStaDpInd (d : Byte) (s : State) : Result := .next (store State.mw State.c (eaDpInd d) s)

/-- STA (d,S),Y, 0x93 (R203, R175). -/
def execStaSrIndY (n : Byte) (s : State) : Result := .next (store State.mw State.c (eaSrIndY n) s)

/-- STA d,X, 0x95 (R203, R162). -/
def execStaDpX (d : Byte) (s : State) : Result := .next (store State.mw State.c (eaDpX d) s)

/-- STA [d],Y, 0x97 (R203, R168). -/
def execStaDpIndLY (d : Byte) (s : State) : Result := .next (store State.mw State.c (eaDpIndLY 0x97 d) s)

/-- STA a,Y, 0x99 (R203, R171). -/
def execStaAbsY (a : Word) (s : State) : Result := .next (store State.mw State.c (eaAbsY a) s)

/-- STA a,X, 0x9D (R203, R170). -/
def execStaAbsX (a : Word) (s : State) : Result := .next (store State.mw State.c (eaAbsX a) s)

/-- STA al,X, 0x9F (R203, R173). -/
def execStaAbsLX (al : Addr) (s : State) : Result := .next (store State.mw State.c (eaAbsLX al) s)

/-- STX d, 0x86 (R204, R161). -/
def execStxDp (d : Byte) (s : State) : Result := .next (store State.xw State.x (eaDp d) s)

/-- STX a, 0x8E (R204, R169). -/
def execStxAbs (a : Word) (s : State) : Result := .next (store State.xw State.x (eaAbs a) s)

/-- STX d,Y, 0x96 (R204, R163). -/
def execStxDpY (d : Byte) (s : State) : Result := .next (store State.xw State.x (eaDpY d) s)

/-- STY d, 0x84 (R205, R161). -/
def execStyDp (d : Byte) (s : State) : Result := .next (store State.xw State.y (eaDp d) s)

/-- STY a, 0x8C (R205, R169). -/
def execStyAbs (a : Word) (s : State) : Result := .next (store State.xw State.y (eaAbs a) s)

/-- STY d,X, 0x94 (R205, R162). -/
def execStyDpX (d : Byte) (s : State) : Result := .next (store State.xw State.y (eaDpX d) s)

/-- STZ d, 0x64 (R206, R161). -/
def execStzDp (d : Byte) (s : State) : Result := .next (store State.mw (fun _ => 0x0000) (eaDp d) s)

/-- STZ d,X, 0x74 (R206, R162). -/
def execStzDpX (d : Byte) (s : State) : Result := .next (store State.mw (fun _ => 0x0000) (eaDpX d) s)

/-- STZ a, 0x9C (R206, R169). -/
def execStzAbs (a : Word) (s : State) : Result := .next (store State.mw (fun _ => 0x0000) (eaAbs a) s)

/-- STZ a,X, 0x9E (R206, R170). -/
def execStzAbsX (a : Word) (s : State) : Result := .next (store State.mw (fun _ => 0x0000) (eaAbsX a) s)

end Sys2Proof.Machine
end

