-- ==== Sys2Proof/Machine/Logic.lean ====
section
/-! DEFINITION. Logical, bit-test and shift instructions (45_logic_shift.md, spec R300 to R309). -/

namespace Sys2Proof.Machine

/-- AND (d,X), 0x21 (R300, R165). -/
def execAndDpIndX (d : Byte) (s : State) : Result := .next (accOp andOp (memOperand State.mw (eaDpIndX d)) s)

/-- AND d,S, 0x23 (R300, R174). -/
def execAndSr (n : Byte) (s : State) : Result := .next (accOp andOp (memOperand State.mw (eaSr n)) s)

/-- AND d, 0x25 (R300, R161). -/
def execAndDp (d : Byte) (s : State) : Result := .next (accOp andOp (memOperand State.mw (eaDp d)) s)

/-- AND [d], 0x27 (R300, R167). -/
def execAndDpIndL (d : Byte) (s : State) : Result := .next (accOp andOp (memOperand State.mw (eaDpIndL 0x27 d)) s)

/-- AND #const, 0x29 (R300, R160). -/
def execAndImm (v : Imm) (s : State) : Result := .next (accOp andOp (immOperand State.mw v) s)

/-- AND a, 0x2D (R300, R169). -/
def execAndAbs (a : Word) (s : State) : Result := .next (accOp andOp (memOperand State.mw (eaAbs a)) s)

/-- AND al, 0x2F (R300, R172). -/
def execAndAbsL (al : Addr) (s : State) : Result := .next (accOp andOp (memOperand State.mw (eaAbsL al)) s)

/-- AND (d),Y, 0x31 (R300, R166). -/
def execAndDpIndY (d : Byte) (s : State) : Result := .next (accOp andOp (memOperand State.mw (eaDpIndY d)) s)

/-- AND (d), 0x32 (R300, R164). -/
def execAndDpInd (d : Byte) (s : State) : Result := .next (accOp andOp (memOperand State.mw (eaDpInd d)) s)

/-- AND (d,S),Y, 0x33 (R300, R175). -/
def execAndSrIndY (n : Byte) (s : State) : Result := .next (accOp andOp (memOperand State.mw (eaSrIndY n)) s)

/-- AND d,X, 0x35 (R300, R162). -/
def execAndDpX (d : Byte) (s : State) : Result := .next (accOp andOp (memOperand State.mw (eaDpX d)) s)

/-- AND [d],Y, 0x37 (R300, R168). -/
def execAndDpIndLY (d : Byte) (s : State) : Result := .next (accOp andOp (memOperand State.mw (eaDpIndLY 0x37 d)) s)

/-- AND a,Y, 0x39 (R300, R171). -/
def execAndAbsY (a : Word) (s : State) : Result := .next (accOp andOp (memOperand State.mw (eaAbsY a)) s)

/-- AND a,X, 0x3D (R300, R170). -/
def execAndAbsX (a : Word) (s : State) : Result := .next (accOp andOp (memOperand State.mw (eaAbsX a)) s)

/-- AND al,X, 0x3F (R300, R173). -/
def execAndAbsLX (al : Addr) (s : State) : Result := .next (accOp andOp (memOperand State.mw (eaAbsLX al)) s)

/-- ORA (d,X), 0x01 (R301, R165). -/
def execOraDpIndX (d : Byte) (s : State) : Result := .next (accOp oraOp (memOperand State.mw (eaDpIndX d)) s)

/-- ORA d,S, 0x03 (R301, R174). -/
def execOraSr (n : Byte) (s : State) : Result := .next (accOp oraOp (memOperand State.mw (eaSr n)) s)

/-- ORA d, 0x05 (R301, R161). -/
def execOraDp (d : Byte) (s : State) : Result := .next (accOp oraOp (memOperand State.mw (eaDp d)) s)

/-- ORA [d], 0x07 (R301, R167). -/
def execOraDpIndL (d : Byte) (s : State) : Result := .next (accOp oraOp (memOperand State.mw (eaDpIndL 0x07 d)) s)

/-- ORA #const, 0x09 (R301, R160). -/
def execOraImm (v : Imm) (s : State) : Result := .next (accOp oraOp (immOperand State.mw v) s)

/-- ORA a, 0x0D (R301, R169). -/
def execOraAbs (a : Word) (s : State) : Result := .next (accOp oraOp (memOperand State.mw (eaAbs a)) s)

/-- ORA al, 0x0F (R301, R172). -/
def execOraAbsL (al : Addr) (s : State) : Result := .next (accOp oraOp (memOperand State.mw (eaAbsL al)) s)

/-- ORA (d),Y, 0x11 (R301, R166). -/
def execOraDpIndY (d : Byte) (s : State) : Result := .next (accOp oraOp (memOperand State.mw (eaDpIndY d)) s)

/-- ORA (d), 0x12 (R301, R164). -/
def execOraDpInd (d : Byte) (s : State) : Result := .next (accOp oraOp (memOperand State.mw (eaDpInd d)) s)

/-- ORA (d,S),Y, 0x13 (R301, R175). -/
def execOraSrIndY (n : Byte) (s : State) : Result := .next (accOp oraOp (memOperand State.mw (eaSrIndY n)) s)

/-- ORA d,X, 0x15 (R301, R162). -/
def execOraDpX (d : Byte) (s : State) : Result := .next (accOp oraOp (memOperand State.mw (eaDpX d)) s)

/-- ORA [d],Y, 0x17 (R301, R168). -/
def execOraDpIndLY (d : Byte) (s : State) : Result := .next (accOp oraOp (memOperand State.mw (eaDpIndLY 0x17 d)) s)

/-- ORA a,Y, 0x19 (R301, R171). -/
def execOraAbsY (a : Word) (s : State) : Result := .next (accOp oraOp (memOperand State.mw (eaAbsY a)) s)

/-- ORA a,X, 0x1D (R301, R170). -/
def execOraAbsX (a : Word) (s : State) : Result := .next (accOp oraOp (memOperand State.mw (eaAbsX a)) s)

/-- ORA al,X, 0x1F (R301, R173). -/
def execOraAbsLX (al : Addr) (s : State) : Result := .next (accOp oraOp (memOperand State.mw (eaAbsLX al)) s)

/-- EOR (d,X), 0x41 (R302, R165). -/
def execEorDpIndX (d : Byte) (s : State) : Result := .next (accOp eorOp (memOperand State.mw (eaDpIndX d)) s)

/-- EOR d,S, 0x43 (R302, R174). -/
def execEorSr (n : Byte) (s : State) : Result := .next (accOp eorOp (memOperand State.mw (eaSr n)) s)

/-- EOR d, 0x45 (R302, R161). -/
def execEorDp (d : Byte) (s : State) : Result := .next (accOp eorOp (memOperand State.mw (eaDp d)) s)

/-- EOR [d], 0x47 (R302, R167). -/
def execEorDpIndL (d : Byte) (s : State) : Result := .next (accOp eorOp (memOperand State.mw (eaDpIndL 0x47 d)) s)

/-- EOR #const, 0x49 (R302, R160). -/
def execEorImm (v : Imm) (s : State) : Result := .next (accOp eorOp (immOperand State.mw v) s)

/-- EOR a, 0x4D (R302, R169). -/
def execEorAbs (a : Word) (s : State) : Result := .next (accOp eorOp (memOperand State.mw (eaAbs a)) s)

/-- EOR al, 0x4F (R302, R172). -/
def execEorAbsL (al : Addr) (s : State) : Result := .next (accOp eorOp (memOperand State.mw (eaAbsL al)) s)

/-- EOR (d),Y, 0x51 (R302, R166). -/
def execEorDpIndY (d : Byte) (s : State) : Result := .next (accOp eorOp (memOperand State.mw (eaDpIndY d)) s)

/-- EOR (d), 0x52 (R302, R164). -/
def execEorDpInd (d : Byte) (s : State) : Result := .next (accOp eorOp (memOperand State.mw (eaDpInd d)) s)

/-- EOR (d,S),Y, 0x53 (R302, R175). -/
def execEorSrIndY (n : Byte) (s : State) : Result := .next (accOp eorOp (memOperand State.mw (eaSrIndY n)) s)

/-- EOR d,X, 0x55 (R302, R162). -/
def execEorDpX (d : Byte) (s : State) : Result := .next (accOp eorOp (memOperand State.mw (eaDpX d)) s)

/-- EOR [d],Y, 0x57 (R302, R168). -/
def execEorDpIndLY (d : Byte) (s : State) : Result := .next (accOp eorOp (memOperand State.mw (eaDpIndLY 0x57 d)) s)

/-- EOR a,Y, 0x59 (R302, R171). -/
def execEorAbsY (a : Word) (s : State) : Result := .next (accOp eorOp (memOperand State.mw (eaAbsY a)) s)

/-- EOR a,X, 0x5D (R302, R170). -/
def execEorAbsX (a : Word) (s : State) : Result := .next (accOp eorOp (memOperand State.mw (eaAbsX a)) s)

/-- EOR al,X, 0x5F (R302, R173). -/
def execEorAbsLX (al : Addr) (s : State) : Result := .next (accOp eorOp (memOperand State.mw (eaAbsLX al)) s)

/-- BIT d, 0x24 (R303, R161). -/
def execBitDp (d : Byte) (s : State) : Result := .next (accTest bitMemOp (memOperand State.mw (eaDp d)) s)

/-- BIT a, 0x2C (R303, R169). -/
def execBitAbs (a : Word) (s : State) : Result := .next (accTest bitMemOp (memOperand State.mw (eaAbs a)) s)

/-- BIT d,X, 0x34 (R303, R162). -/
def execBitDpX (d : Byte) (s : State) : Result := .next (accTest bitMemOp (memOperand State.mw (eaDpX d)) s)

/-- BIT a,X, 0x3C (R303, R170). -/
def execBitAbsX (a : Word) (s : State) : Result := .next (accTest bitMemOp (memOperand State.mw (eaAbsX a)) s)

/-- BIT #const, 0x89 (R303, R160). -/
def execBitImm (v : Imm) (s : State) : Result := .next (accTest bitImmOp (immOperand State.mw v) s)

/-- TSB d, 0x04 (R304, R161). -/
def execTsbDp (d : Byte) (s : State) : Result := .next (modifyMem (tsbOp s.acc) (eaDp d) s)

/-- TSB a, 0x0C (R304, R169). -/
def execTsbAbs (a : Word) (s : State) : Result := .next (modifyMem (tsbOp s.acc) (eaAbs a) s)

/-- TRB d, 0x14 (R305, R161). -/
def execTrbDp (d : Byte) (s : State) : Result := .next (modifyMem (trbOp s.acc) (eaDp d) s)

/-- TRB a, 0x1C (R305, R169). -/
def execTrbAbs (a : Word) (s : State) : Result := .next (modifyMem (trbOp s.acc) (eaAbs a) s)

/-- ASL d, 0x06 (R306, R161). -/
def execAslDp (d : Byte) (s : State) : Result := .next (modifyMem aslOp (eaDp d) s)

/-- ASL A, 0x0A (R306). -/
def execAslAcc (s : State) : Result := .next (modifyAcc aslOp s)

/-- ASL a, 0x0E (R306, R169). -/
def execAslAbs (a : Word) (s : State) : Result := .next (modifyMem aslOp (eaAbs a) s)

/-- ASL d,X, 0x16 (R306, R162). -/
def execAslDpX (d : Byte) (s : State) : Result := .next (modifyMem aslOp (eaDpX d) s)

/-- ASL a,X, 0x1E (R306, R170). -/
def execAslAbsX (a : Word) (s : State) : Result := .next (modifyMem aslOp (eaAbsX a) s)

/-- LSR d, 0x46 (R307, R161). -/
def execLsrDp (d : Byte) (s : State) : Result := .next (modifyMem lsrOp (eaDp d) s)

/-- LSR A, 0x4A (R307). -/
def execLsrAcc (s : State) : Result := .next (modifyAcc lsrOp s)

/-- LSR a, 0x4E (R307, R169). -/
def execLsrAbs (a : Word) (s : State) : Result := .next (modifyMem lsrOp (eaAbs a) s)

/-- LSR d,X, 0x56 (R307, R162). -/
def execLsrDpX (d : Byte) (s : State) : Result := .next (modifyMem lsrOp (eaDpX d) s)

/-- LSR a,X, 0x5E (R307, R170). -/
def execLsrAbsX (a : Word) (s : State) : Result := .next (modifyMem lsrOp (eaAbsX a) s)

/-- ROL d, 0x26 (R308, R161). -/
def execRolDp (d : Byte) (s : State) : Result := .next (modifyMem rolOp (eaDp d) s)

/-- ROL A, 0x2A (R308). -/
def execRolAcc (s : State) : Result := .next (modifyAcc rolOp s)

/-- ROL a, 0x2E (R308, R169). -/
def execRolAbs (a : Word) (s : State) : Result := .next (modifyMem rolOp (eaAbs a) s)

/-- ROL d,X, 0x36 (R308, R162). -/
def execRolDpX (d : Byte) (s : State) : Result := .next (modifyMem rolOp (eaDpX d) s)

/-- ROL a,X, 0x3E (R308, R170). -/
def execRolAbsX (a : Word) (s : State) : Result := .next (modifyMem rolOp (eaAbsX a) s)

/-- ROR d, 0x66 (R309, R161). -/
def execRorDp (d : Byte) (s : State) : Result := .next (modifyMem rorOp (eaDp d) s)

/-- ROR A, 0x6A (R309). -/
def execRorAcc (s : State) : Result := .next (modifyAcc rorOp s)

/-- ROR a, 0x6E (R309, R169). -/
def execRorAbs (a : Word) (s : State) : Result := .next (modifyMem rorOp (eaAbs a) s)

/-- ROR d,X, 0x76 (R309, R162). -/
def execRorDpX (d : Byte) (s : State) : Result := .next (modifyMem rorOp (eaDpX d) s)

/-- ROR a,X, 0x7E (R309, R170). -/
def execRorAbsX (a : Word) (s : State) : Result := .next (modifyMem rorOp (eaAbsX a) s)

end Sys2Proof.Machine
end

