-- ==== Sys2Proof/Machine/Modes.lean ====
section
/-! DEFINITION. Flag and mode instructions (47_flags_mode.md, spec R370 to R380). -/

namespace Sys2Proof.Machine

/-- XCE (R380): c and E change places; when E becomes or stays 1, m and x are 1, the high bytes of X and Y are 0 and
S[15:8] is 0x01. B and D are kept. -/
def exchangeCarry (s : State) : State :=
  let s1 := s.withE s.p.c
  let p1 : Flags := { s.p with c := s.e, m := s.p.m || s.p.c, x := s.p.x || s.p.c }
  if s.p.c then (s1.setFlags p1).withSP (pair 0x01 (lo s.sp)) else s1.withP p1

/-- CLC, 0x18 (R370). -/
def execClc (s : State) : Result := .next (s.withP { s.p with c := false })

/-- SEC, 0x38 (R371). -/
def execSec (s : State) : Result := .next (s.withP { s.p with c := true })

/-- CLI, 0x58 (R372). -/
def execCli (s : State) : Result := .next (s.withP { s.p with i := false })

/-- SEI, 0x78 (R373). -/
def execSei (s : State) : Result := .next (s.withP { s.p with i := true })

/-- CLD, 0xD8 (R374). -/
def execCld (s : State) : Result := .next (s.withP { s.p with d := false })

/-- SED, 0xF8 (R375). -/
def execSed (s : State) : Result := .next (s.withP { s.p with d := true })

/-- CLV, 0xB8 (R376). -/
def execClv (s : State) : Result := .next (s.withP { s.p with v := false })

/-- REP #const, 0xC2 (R377, R160). -/
def execRep (b : Byte) (s : State) : Result := .next (s.withP (repFlags s.e b s.p))

/-- SEP #const, 0xE2 (R378, R160). -/
def execSep (b : Byte) (s : State) : Result := .next (s.setFlags (sepFlags s.e b s.p))

/-- XCE, 0xFB (R380). -/
def execXce (s : State) : Result := .next (exchangeCarry s)

end Sys2Proof.Machine
end

