-- ==== Sys2Proof/Machine/Stack.lean ====
section
/-! DEFINITION. Stack instructions (43_stack.md, spec R240 to R255). Each asks whether its opcode is in
`EMU_LINEAR_STACK_OPS` (R88, R90). -/

namespace Sys2Proof.Machine

/-- PEI (R248): the direct-page value is read, then pushed. -/
def pushIndirect (lin : Bool) (op d : Byte) (s : State) : State :=
  let v := peiValue op d s
  push16 lin v.1 v.2

/-- PLB (R252): the pulled byte into DB, with its n and z. -/
def loadDB (operand : State → Byte × State) (s : State) : State :=
  let v := operand s
  (v.2.withDB v.1).nz .w8 (zext16 v.1)

/-- PLD (R253): the pulled value into D, with its 16-bit n and z. -/
def loadD (operand : State → Word × State) (s : State) : State :=
  let v := operand s
  (v.2.withD v.1).nz .w16 v.1

/-- PLP (R255): `SetP` of the pulled byte. -/
def loadP (operand : State → Byte × State) (s : State) : State :=
  let v := operand s
  v.2.setP v.1

/-- PHA, 0x48 (R240). -/
def execPha (s : State) : Result := .next (pushW (s.linear 0x48) s.mw s.c s)

/-- PHX, 0xDA (R241). -/
def execPhx (s : State) : Result := .next (pushW (s.linear 0xDA) s.xw s.x s)

/-- PHY, 0x5A (R242). -/
def execPhy (s : State) : Result := .next (pushW (s.linear 0x5A) s.xw s.y s)

/-- PHP, 0x08 (R243). -/
def execPhp (s : State) : Result := .next (push8 (s.linear 0x08) (pByte s.e true s.p) s)

/-- PHB, 0x8B (R244). -/
def execPhb (s : State) : Result := .next (push8 (s.linear 0x8B) s.db s)

/-- PHK, 0x4B (R245). -/
def execPhk (s : State) : Result := .next (push8 (s.linear 0x4B) s.pb s)

/-- PHD, 0x0B (R246). -/
def execPhd (s : State) : Result := .next (push16 (s.linear 0x0B) s.d s)

/-- PEA addr, 0xF4 (R247, R160). -/
def execPea (v : Word) (s : State) : Result := .next (push16 (s.linear 0xF4) v s)

/-- PEI (d), 0xD4 (R248, R183). -/
def execPei (d : Byte) (s : State) : Result := .next (pushIndirect (s.linear 0xD4) 0xD4 d s)

/-- PER rl, 0x62 (R249, R177). -/
def execPer (rl : Word) (s : State) : Result := .next (push16 (s.linear 0x62) (relLongTarget rl s) s)

/-- PLX, 0xFA (R250). -/
def execPlx (s : State) : Result := .next (loadX (pullW (s.linear 0xFA) s.xw) s)

/-- PLY, 0x7A (R251). -/
def execPly (s : State) : Result := .next (loadY (pullW (s.linear 0x7A) s.xw) s)

/-- PLB, 0xAB (R252). -/
def execPlb (s : State) : Result := .next (loadDB (pull8 (s.linear 0xAB)) s)

/-- PLD, 0x2B (R253). -/
def execPld (s : State) : Result := .next (loadD (pull16 (s.linear 0x2B)) s)

/-- PLA, 0x68 (R254). -/
def execPla (s : State) : Result := .next (loadAcc (pullW (s.linear 0x68) s.mw) s)

/-- PLP, 0x28 (R255). -/
def execPlp (s : State) : Result := .next (loadP (pull8 (s.linear 0x28)) s)

end Sys2Proof.Machine
end

