-- ==== Sys2Proof/Machine/System.lean ====
section
/-! DEFINITION. System, interrupt-return, power and block-move instructions (48_system.md, spec R390 to R402). -/

namespace Sys2Proof.Machine

/-- BRK #sig, 0x00 (R390, R160). -/
def execBrk (_sig : Byte) (s : State) : Result := .next (takeInterrupt .brk s)

/-- COP #sig, 0x02 (R391, R160). -/
def execCop (_sig : Byte) (s : State) : Result := .next (takeInterrupt .cop s)

/-- NOP, 0xEA (R392). -/
def execNop (s : State) : Result := .next s

/-- WDM #byte, 0x42 (R393, R160). -/
def execWdm (_sig : Byte) (s : State) : Result := .next s

/-- RTI, 0x40 (R395). -/
def execRti (s : State) : Result := .next (returnFromInterrupt s)

/-- WAI, 0xCB (R396). -/
def execWai (s : State) : Result := .next (s.withRun .waiting)

/-- STP, 0xDB (R397). -/
def execStp (s : State) : Result := .next (s.withRun .stopped)

/-- MVN srcbk,dstbk, 0x54 (R400, R181). -/
def execMvn (t : Byte) (u : Byte) (s : State) : Result := .next (blockStep 0x0001 t u s)

/-- MVP srcbk,dstbk, 0x44 (R401, R181). -/
def execMvp (t : Byte) (u : Byte) (s : State) : Result := .next (blockStep 0xFFFF t u s)

end Sys2Proof.Machine
end

