-- ==== Sys2Proof/Machine/Transfer.lean ====
section
/-! DEFINITION. Register transfers (42_transfer.md, spec R220 to R232). The width of a transfer is its destination's,
except where a rule moves 16 bits always. -/

namespace Sys2Proof.Machine

/-- TAX, 0xAA (R220). -/
def execTax (s : State) : Result := .next (toX s.c s)

/-- TAY, 0xA8 (R221). -/
def execTay (s : State) : Result := .next (toY s.c s)

/-- TXA, 0x8A (R222). -/
def execTxa (s : State) : Result := .next (toAcc s.x s)

/-- TYA, 0x98 (R223). -/
def execTya (s : State) : Result := .next (toAcc s.y s)

/-- TXY, 0x9B (R224). -/
def execTxy (s : State) : Result := .next (toY s.x s)

/-- TYX, 0xBB (R225). -/
def execTyx (s : State) : Result := .next (toX s.y s)

/-- TSX, 0xBA (R226). -/
def execTsx (s : State) : Result := .next (toX s.sp s)

/-- TXS, 0x9A (R227). -/
def execTxs (s : State) : Result := .next (s.setS s.x)

/-- TCS, 0x1B (R228). -/
def execTcs (s : State) : Result := .next (s.setS s.c)

/-- TCD, 0x5B (R229). -/
def execTcd (s : State) : Result := .next ((s.withD s.c).nz .w16 s.c)

/-- TDC, 0x7B (R230). -/
def execTdc (s : State) : Result := .next ((s.withC s.d).nz .w16 s.d)

/-- TSC, 0x3B (R231). -/
def execTsc (s : State) : Result := .next ((s.withC s.sp).nz .w16 s.sp)

/-- XBA, 0xEB (R232). -/
def execXba (s : State) : Result := .next ((s.withC (pair (lo s.c) (hi s.c))).nz .w8 (zext16 (hi s.c)))

end Sys2Proof.Machine
end

