-- ==== Sys2Proof/Machine/Dispatch.lean ====
section
/-! DEFINITION. The dispatch: one arm per instruction, each one direct call of its meaning. -/

namespace Sys2Proof.Machine

/-- The effect of a decoded instruction. PC in the state is the offset after the instruction's operand bytes (46_control.md). -/
def exec (i : Instr) (s : State) : Host.Outcome State Fault Refusal :=
  match i with
  -- 41_load_store.md
  | .ldaDpIndX d => Sys2Proof.Machine.execLdaDpIndX d s
  | .ldaSr n => Sys2Proof.Machine.execLdaSr n s
  | .ldaDp d => Sys2Proof.Machine.execLdaDp d s
  | .ldaDpIndL d => Sys2Proof.Machine.execLdaDpIndL d s
  | .ldaImm v => Sys2Proof.Machine.execLdaImm v s
  | .ldaAbs a => Sys2Proof.Machine.execLdaAbs a s
  | .ldaAbsL al => Sys2Proof.Machine.execLdaAbsL al s
  | .ldaDpIndY d => Sys2Proof.Machine.execLdaDpIndY d s
  | .ldaDpInd d => Sys2Proof.Machine.execLdaDpInd d s
  | .ldaSrIndY n => Sys2Proof.Machine.execLdaSrIndY n s
  | .ldaDpX d => Sys2Proof.Machine.execLdaDpX d s
  | .ldaDpIndLY d => Sys2Proof.Machine.execLdaDpIndLY d s
  | .ldaAbsY a => Sys2Proof.Machine.execLdaAbsY a s
  | .ldaAbsX a => Sys2Proof.Machine.execLdaAbsX a s
  | .ldaAbsLX al => Sys2Proof.Machine.execLdaAbsLX al s
  | .ldxImm v => Sys2Proof.Machine.execLdxImm v s
  | .ldxDp d => Sys2Proof.Machine.execLdxDp d s
  | .ldxAbs a => Sys2Proof.Machine.execLdxAbs a s
  | .ldxDpY d => Sys2Proof.Machine.execLdxDpY d s
  | .ldxAbsY a => Sys2Proof.Machine.execLdxAbsY a s
  | .ldyImm v => Sys2Proof.Machine.execLdyImm v s
  | .ldyDp d => Sys2Proof.Machine.execLdyDp d s
  | .ldyAbs a => Sys2Proof.Machine.execLdyAbs a s
  | .ldyDpX d => Sys2Proof.Machine.execLdyDpX d s
  | .ldyAbsX a => Sys2Proof.Machine.execLdyAbsX a s
  | .staDpIndX d => Sys2Proof.Machine.execStaDpIndX d s
  | .staSr n => Sys2Proof.Machine.execStaSr n s
  | .staDp d => Sys2Proof.Machine.execStaDp d s
  | .staDpIndL d => Sys2Proof.Machine.execStaDpIndL d s
  | .staAbs a => Sys2Proof.Machine.execStaAbs a s
  | .staAbsL al => Sys2Proof.Machine.execStaAbsL al s
  | .staDpIndY d => Sys2Proof.Machine.execStaDpIndY d s
  | .staDpInd d => Sys2Proof.Machine.execStaDpInd d s
  | .staSrIndY n => Sys2Proof.Machine.execStaSrIndY n s
  | .staDpX d => Sys2Proof.Machine.execStaDpX d s
  | .staDpIndLY d => Sys2Proof.Machine.execStaDpIndLY d s
  | .staAbsY a => Sys2Proof.Machine.execStaAbsY a s
  | .staAbsX a => Sys2Proof.Machine.execStaAbsX a s
  | .staAbsLX al => Sys2Proof.Machine.execStaAbsLX al s
  | .stxDp d => Sys2Proof.Machine.execStxDp d s
  | .stxAbs a => Sys2Proof.Machine.execStxAbs a s
  | .stxDpY d => Sys2Proof.Machine.execStxDpY d s
  | .styDp d => Sys2Proof.Machine.execStyDp d s
  | .styAbs a => Sys2Proof.Machine.execStyAbs a s
  | .styDpX d => Sys2Proof.Machine.execStyDpX d s
  | .stzDp d => Sys2Proof.Machine.execStzDp d s
  | .stzDpX d => Sys2Proof.Machine.execStzDpX d s
  | .stzAbs a => Sys2Proof.Machine.execStzAbs a s
  | .stzAbsX a => Sys2Proof.Machine.execStzAbsX a s
  -- 44_arithmetic.md
  | .adcDpIndX d => Sys2Proof.Machine.execAdcDpIndX d s
  | .adcSr n => Sys2Proof.Machine.execAdcSr n s
  | .adcDp d => Sys2Proof.Machine.execAdcDp d s
  | .adcDpIndL d => Sys2Proof.Machine.execAdcDpIndL d s
  | .adcImm v => Sys2Proof.Machine.execAdcImm v s
  | .adcAbs a => Sys2Proof.Machine.execAdcAbs a s
  | .adcAbsL al => Sys2Proof.Machine.execAdcAbsL al s
  | .adcDpIndY d => Sys2Proof.Machine.execAdcDpIndY d s
  | .adcDpInd d => Sys2Proof.Machine.execAdcDpInd d s
  | .adcSrIndY n => Sys2Proof.Machine.execAdcSrIndY n s
  | .adcDpX d => Sys2Proof.Machine.execAdcDpX d s
  | .adcDpIndLY d => Sys2Proof.Machine.execAdcDpIndLY d s
  | .adcAbsY a => Sys2Proof.Machine.execAdcAbsY a s
  | .adcAbsX a => Sys2Proof.Machine.execAdcAbsX a s
  | .adcAbsLX al => Sys2Proof.Machine.execAdcAbsLX al s
  | .sbcDpIndX d => Sys2Proof.Machine.execSbcDpIndX d s
  | .sbcSr n => Sys2Proof.Machine.execSbcSr n s
  | .sbcDp d => Sys2Proof.Machine.execSbcDp d s
  | .sbcDpIndL d => Sys2Proof.Machine.execSbcDpIndL d s
  | .sbcImm v => Sys2Proof.Machine.execSbcImm v s
  | .sbcAbs a => Sys2Proof.Machine.execSbcAbs a s
  | .sbcAbsL al => Sys2Proof.Machine.execSbcAbsL al s
  | .sbcDpIndY d => Sys2Proof.Machine.execSbcDpIndY d s
  | .sbcDpInd d => Sys2Proof.Machine.execSbcDpInd d s
  | .sbcSrIndY n => Sys2Proof.Machine.execSbcSrIndY n s
  | .sbcDpX d => Sys2Proof.Machine.execSbcDpX d s
  | .sbcDpIndLY d => Sys2Proof.Machine.execSbcDpIndLY d s
  | .sbcAbsY a => Sys2Proof.Machine.execSbcAbsY a s
  | .sbcAbsX a => Sys2Proof.Machine.execSbcAbsX a s
  | .sbcAbsLX al => Sys2Proof.Machine.execSbcAbsLX al s
  | .cmpDpIndX d => Sys2Proof.Machine.execCmpDpIndX d s
  | .cmpSr n => Sys2Proof.Machine.execCmpSr n s
  | .cmpDp d => Sys2Proof.Machine.execCmpDp d s
  | .cmpDpIndL d => Sys2Proof.Machine.execCmpDpIndL d s
  | .cmpImm v => Sys2Proof.Machine.execCmpImm v s
  | .cmpAbs a => Sys2Proof.Machine.execCmpAbs a s
  | .cmpAbsL al => Sys2Proof.Machine.execCmpAbsL al s
  | .cmpDpIndY d => Sys2Proof.Machine.execCmpDpIndY d s
  | .cmpDpInd d => Sys2Proof.Machine.execCmpDpInd d s
  | .cmpSrIndY n => Sys2Proof.Machine.execCmpSrIndY n s
  | .cmpDpX d => Sys2Proof.Machine.execCmpDpX d s
  | .cmpDpIndLY d => Sys2Proof.Machine.execCmpDpIndLY d s
  | .cmpAbsY a => Sys2Proof.Machine.execCmpAbsY a s
  | .cmpAbsX a => Sys2Proof.Machine.execCmpAbsX a s
  | .cmpAbsLX al => Sys2Proof.Machine.execCmpAbsLX al s
  | .cpxImm v => Sys2Proof.Machine.execCpxImm v s
  | .cpxDp d => Sys2Proof.Machine.execCpxDp d s
  | .cpxAbs a => Sys2Proof.Machine.execCpxAbs a s
  | .cpyImm v => Sys2Proof.Machine.execCpyImm v s
  | .cpyDp d => Sys2Proof.Machine.execCpyDp d s
  | .cpyAbs a => Sys2Proof.Machine.execCpyAbs a s
  | .incAcc => Sys2Proof.Machine.execIncAcc s
  | .incDp d => Sys2Proof.Machine.execIncDp d s
  | .incAbs a => Sys2Proof.Machine.execIncAbs a s
  | .incDpX d => Sys2Proof.Machine.execIncDpX d s
  | .incAbsX a => Sys2Proof.Machine.execIncAbsX a s
  | .inx => Sys2Proof.Machine.execInx s
  | .iny => Sys2Proof.Machine.execIny s
  | .decAcc => Sys2Proof.Machine.execDecAcc s
  | .decDp d => Sys2Proof.Machine.execDecDp d s
  | .decAbs a => Sys2Proof.Machine.execDecAbs a s
  | .decDpX d => Sys2Proof.Machine.execDecDpX d s
  | .decAbsX a => Sys2Proof.Machine.execDecAbsX a s
  | .dex => Sys2Proof.Machine.execDex s
  | .dey => Sys2Proof.Machine.execDey s
  -- 45_logic_shift.md
  | .andDpIndX d => Sys2Proof.Machine.execAndDpIndX d s
  | .andSr n => Sys2Proof.Machine.execAndSr n s
  | .andDp d => Sys2Proof.Machine.execAndDp d s
  | .andDpIndL d => Sys2Proof.Machine.execAndDpIndL d s
  | .andImm v => Sys2Proof.Machine.execAndImm v s
  | .andAbs a => Sys2Proof.Machine.execAndAbs a s
  | .andAbsL al => Sys2Proof.Machine.execAndAbsL al s
  | .andDpIndY d => Sys2Proof.Machine.execAndDpIndY d s
  | .andDpInd d => Sys2Proof.Machine.execAndDpInd d s
  | .andSrIndY n => Sys2Proof.Machine.execAndSrIndY n s
  | .andDpX d => Sys2Proof.Machine.execAndDpX d s
  | .andDpIndLY d => Sys2Proof.Machine.execAndDpIndLY d s
  | .andAbsY a => Sys2Proof.Machine.execAndAbsY a s
  | .andAbsX a => Sys2Proof.Machine.execAndAbsX a s
  | .andAbsLX al => Sys2Proof.Machine.execAndAbsLX al s
  | .oraDpIndX d => Sys2Proof.Machine.execOraDpIndX d s
  | .oraSr n => Sys2Proof.Machine.execOraSr n s
  | .oraDp d => Sys2Proof.Machine.execOraDp d s
  | .oraDpIndL d => Sys2Proof.Machine.execOraDpIndL d s
  | .oraImm v => Sys2Proof.Machine.execOraImm v s
  | .oraAbs a => Sys2Proof.Machine.execOraAbs a s
  | .oraAbsL al => Sys2Proof.Machine.execOraAbsL al s
  | .oraDpIndY d => Sys2Proof.Machine.execOraDpIndY d s
  | .oraDpInd d => Sys2Proof.Machine.execOraDpInd d s
  | .oraSrIndY n => Sys2Proof.Machine.execOraSrIndY n s
  | .oraDpX d => Sys2Proof.Machine.execOraDpX d s
  | .oraDpIndLY d => Sys2Proof.Machine.execOraDpIndLY d s
  | .oraAbsY a => Sys2Proof.Machine.execOraAbsY a s
  | .oraAbsX a => Sys2Proof.Machine.execOraAbsX a s
  | .oraAbsLX al => Sys2Proof.Machine.execOraAbsLX al s
  | .eorDpIndX d => Sys2Proof.Machine.execEorDpIndX d s
  | .eorSr n => Sys2Proof.Machine.execEorSr n s
  | .eorDp d => Sys2Proof.Machine.execEorDp d s
  | .eorDpIndL d => Sys2Proof.Machine.execEorDpIndL d s
  | .eorImm v => Sys2Proof.Machine.execEorImm v s
  | .eorAbs a => Sys2Proof.Machine.execEorAbs a s
  | .eorAbsL al => Sys2Proof.Machine.execEorAbsL al s
  | .eorDpIndY d => Sys2Proof.Machine.execEorDpIndY d s
  | .eorDpInd d => Sys2Proof.Machine.execEorDpInd d s
  | .eorSrIndY n => Sys2Proof.Machine.execEorSrIndY n s
  | .eorDpX d => Sys2Proof.Machine.execEorDpX d s
  | .eorDpIndLY d => Sys2Proof.Machine.execEorDpIndLY d s
  | .eorAbsY a => Sys2Proof.Machine.execEorAbsY a s
  | .eorAbsX a => Sys2Proof.Machine.execEorAbsX a s
  | .eorAbsLX al => Sys2Proof.Machine.execEorAbsLX al s
  | .bitDp d => Sys2Proof.Machine.execBitDp d s
  | .bitAbs a => Sys2Proof.Machine.execBitAbs a s
  | .bitDpX d => Sys2Proof.Machine.execBitDpX d s
  | .bitAbsX a => Sys2Proof.Machine.execBitAbsX a s
  | .bitImm v => Sys2Proof.Machine.execBitImm v s
  | .tsbDp d => Sys2Proof.Machine.execTsbDp d s
  | .tsbAbs a => Sys2Proof.Machine.execTsbAbs a s
  | .trbDp d => Sys2Proof.Machine.execTrbDp d s
  | .trbAbs a => Sys2Proof.Machine.execTrbAbs a s
  | .aslDp d => Sys2Proof.Machine.execAslDp d s
  | .aslAcc => Sys2Proof.Machine.execAslAcc s
  | .aslAbs a => Sys2Proof.Machine.execAslAbs a s
  | .aslDpX d => Sys2Proof.Machine.execAslDpX d s
  | .aslAbsX a => Sys2Proof.Machine.execAslAbsX a s
  | .lsrDp d => Sys2Proof.Machine.execLsrDp d s
  | .lsrAcc => Sys2Proof.Machine.execLsrAcc s
  | .lsrAbs a => Sys2Proof.Machine.execLsrAbs a s
  | .lsrDpX d => Sys2Proof.Machine.execLsrDpX d s
  | .lsrAbsX a => Sys2Proof.Machine.execLsrAbsX a s
  | .rolDp d => Sys2Proof.Machine.execRolDp d s
  | .rolAcc => Sys2Proof.Machine.execRolAcc s
  | .rolAbs a => Sys2Proof.Machine.execRolAbs a s
  | .rolDpX d => Sys2Proof.Machine.execRolDpX d s
  | .rolAbsX a => Sys2Proof.Machine.execRolAbsX a s
  | .rorDp d => Sys2Proof.Machine.execRorDp d s
  | .rorAcc => Sys2Proof.Machine.execRorAcc s
  | .rorAbs a => Sys2Proof.Machine.execRorAbs a s
  | .rorDpX d => Sys2Proof.Machine.execRorDpX d s
  | .rorAbsX a => Sys2Proof.Machine.execRorAbsX a s
  -- 46_control.md
  | .bcc r => Sys2Proof.Machine.execBcc r s
  | .bcs r => Sys2Proof.Machine.execBcs r s
  | .beq r => Sys2Proof.Machine.execBeq r s
  | .bne r => Sys2Proof.Machine.execBne r s
  | .bmi r => Sys2Proof.Machine.execBmi r s
  | .bpl r => Sys2Proof.Machine.execBpl r s
  | .bvc r => Sys2Proof.Machine.execBvc r s
  | .bvs r => Sys2Proof.Machine.execBvs r s
  | .bra r => Sys2Proof.Machine.execBra r s
  | .brl rl => Sys2Proof.Machine.execBrl rl s
  | .jmpAbs a => Sys2Proof.Machine.execJmpAbs a s
  | .jmpInd a => Sys2Proof.Machine.execJmpInd a s
  | .jmpIndX a => Sys2Proof.Machine.execJmpIndX a s
  | .jmlAbsL al => Sys2Proof.Machine.execJmlAbsL al s
  | .jmlIndL a => Sys2Proof.Machine.execJmlIndL a s
  | .jsrAbs a => Sys2Proof.Machine.execJsrAbs a s
  | .jsrIndX a => Sys2Proof.Machine.execJsrIndX a s
  | .jsl al => Sys2Proof.Machine.execJsl al s
  | .rtl => Sys2Proof.Machine.execRtl s
  | .rts => Sys2Proof.Machine.execRts s
  -- 48_system.md
  | .brk sig => Sys2Proof.Machine.execBrk sig s
  | .cop sig => Sys2Proof.Machine.execCop sig s
  | .nop => Sys2Proof.Machine.execNop s
  | .wdm sig => Sys2Proof.Machine.execWdm sig s
  | .rti => Sys2Proof.Machine.execRti s
  | .wai => Sys2Proof.Machine.execWai s
  | .stp => Sys2Proof.Machine.execStp s
  | .mvn t u => Sys2Proof.Machine.execMvn t u s
  | .mvp t u => Sys2Proof.Machine.execMvp t u s
  -- 43_stack.md
  | .pha => Sys2Proof.Machine.execPha s
  | .phx => Sys2Proof.Machine.execPhx s
  | .phy => Sys2Proof.Machine.execPhy s
  | .php => Sys2Proof.Machine.execPhp s
  | .phb => Sys2Proof.Machine.execPhb s
  | .phk => Sys2Proof.Machine.execPhk s
  | .phd => Sys2Proof.Machine.execPhd s
  | .pea v => Sys2Proof.Machine.execPea v s
  | .pei d => Sys2Proof.Machine.execPei d s
  | .per rl => Sys2Proof.Machine.execPer rl s
  | .plx => Sys2Proof.Machine.execPlx s
  | .ply => Sys2Proof.Machine.execPly s
  | .plb => Sys2Proof.Machine.execPlb s
  | .pld => Sys2Proof.Machine.execPld s
  | .pla => Sys2Proof.Machine.execPla s
  | .plp => Sys2Proof.Machine.execPlp s
  -- 47_flags_mode.md
  | .clc => Sys2Proof.Machine.execClc s
  | .sec => Sys2Proof.Machine.execSec s
  | .cli => Sys2Proof.Machine.execCli s
  | .sei => Sys2Proof.Machine.execSei s
  | .cld => Sys2Proof.Machine.execCld s
  | .sed => Sys2Proof.Machine.execSed s
  | .clv => Sys2Proof.Machine.execClv s
  | .rep b => Sys2Proof.Machine.execRep b s
  | .sep b => Sys2Proof.Machine.execSep b s
  | .xce => Sys2Proof.Machine.execXce s
  -- 42_transfer.md
  | .tax => Sys2Proof.Machine.execTax s
  | .tay => Sys2Proof.Machine.execTay s
  | .txa => Sys2Proof.Machine.execTxa s
  | .tya => Sys2Proof.Machine.execTya s
  | .txy => Sys2Proof.Machine.execTxy s
  | .tyx => Sys2Proof.Machine.execTyx s
  | .tsx => Sys2Proof.Machine.execTsx s
  | .txs => Sys2Proof.Machine.execTxs s
  | .tcs => Sys2Proof.Machine.execTcs s
  | .tcd => Sys2Proof.Machine.execTcd s
  | .tdc => Sys2Proof.Machine.execTdc s
  | .tsc => Sys2Proof.Machine.execTsc s
  | .xba => Sys2Proof.Machine.execXba s

end Sys2Proof.Machine
end

