-- ==== Sys2Proof/Machine/Timing.lean ====
section
/-! DEFINITION. The cycle cost of an executed instruction (spec R633): the table's base cycles and the notes that add to
them. Timing is an output of the Step and no other rule reads it (R634). -/

namespace Sys2Proof.Machine

/-- The notes of `cycle_adds` (R633). A page-crossing note names its mode and operand, a branch note its condition. -/
inductive CycleAdd where
  | m1
  | m2
  | x1
  | dl
  | pxAbsX (a : Word)
  | pxAbsY (a : Word)
  | pxDpIndY (d : Byte)
  | bt (k : Cond)
  | bp (k : Cond) (r : Byte)
  | ne
  | mv
  | wt
deriving DecidableEq, Repr

/-- An instruction's timing row: `cycles` and `cycle_adds` of the opcode table. -/
structure TimingRow where
  cycles : Nat
  adds   : List CycleAdd
deriving DecidableEq, Repr

/-- The timing row of an instruction, from the opcode table. -/
def timingRow : Instr → TimingRow

  | .ldaDpIndX _ => ⟨6, [.m1, .dl]⟩
  | .ldaSr _ => ⟨4, [.m1]⟩
  | .ldaDp _ => ⟨3, [.m1, .dl]⟩
  | .ldaDpIndL _ => ⟨6, [.m1, .dl]⟩
  | .ldaImm _ => ⟨2, [.m1]⟩
  | .ldaAbs _ => ⟨4, [.m1]⟩
  | .ldaAbsL _ => ⟨5, [.m1]⟩
  | .ldaDpIndY d => ⟨5, [.m1, .dl, .pxDpIndY d]⟩
  | .ldaDpInd _ => ⟨5, [.m1, .dl]⟩
  | .ldaSrIndY _ => ⟨7, [.m1]⟩
  | .ldaDpX _ => ⟨4, [.m1, .dl]⟩
  | .ldaDpIndLY _ => ⟨6, [.m1, .dl]⟩
  | .ldaAbsY a => ⟨4, [.m1, .pxAbsY a]⟩
  | .ldaAbsX a => ⟨4, [.m1, .pxAbsX a]⟩
  | .ldaAbsLX _ => ⟨5, [.m1]⟩
  | .ldxImm _ => ⟨2, [.x1]⟩
  | .ldxDp _ => ⟨3, [.x1, .dl]⟩
  | .ldxAbs _ => ⟨4, [.x1]⟩
  | .ldxDpY _ => ⟨4, [.x1, .dl]⟩
  | .ldxAbsY a => ⟨4, [.x1, .pxAbsY a]⟩
  | .ldyImm _ => ⟨2, [.x1]⟩
  | .ldyDp _ => ⟨3, [.x1, .dl]⟩
  | .ldyAbs _ => ⟨4, [.x1]⟩
  | .ldyDpX _ => ⟨4, [.x1, .dl]⟩
  | .ldyAbsX a => ⟨4, [.x1, .pxAbsX a]⟩
  | .staDpIndX _ => ⟨6, [.m1, .dl]⟩
  | .staSr _ => ⟨4, [.m1]⟩
  | .staDp _ => ⟨3, [.m1, .dl]⟩
  | .staDpIndL _ => ⟨6, [.m1, .dl]⟩
  | .staAbs _ => ⟨4, [.m1]⟩
  | .staAbsL _ => ⟨5, [.m1]⟩
  | .staDpIndY _ => ⟨6, [.m1, .dl]⟩
  | .staDpInd _ => ⟨5, [.m1, .dl]⟩
  | .staSrIndY _ => ⟨7, [.m1]⟩
  | .staDpX _ => ⟨4, [.m1, .dl]⟩
  | .staDpIndLY _ => ⟨6, [.m1, .dl]⟩
  | .staAbsY _ => ⟨5, [.m1]⟩
  | .staAbsX _ => ⟨5, [.m1]⟩
  | .staAbsLX _ => ⟨5, [.m1]⟩
  | .stxDp _ => ⟨3, [.x1, .dl]⟩
  | .stxAbs _ => ⟨4, [.x1]⟩
  | .stxDpY _ => ⟨4, [.x1, .dl]⟩
  | .styDp _ => ⟨3, [.x1, .dl]⟩
  | .styAbs _ => ⟨4, [.x1]⟩
  | .styDpX _ => ⟨4, [.x1, .dl]⟩
  | .stzDp _ => ⟨3, [.m1, .dl]⟩
  | .stzDpX _ => ⟨4, [.m1, .dl]⟩
  | .stzAbs _ => ⟨4, [.m1]⟩
  | .stzAbsX _ => ⟨5, [.m1]⟩
  | .adcDpIndX _ => ⟨6, [.m1, .dl]⟩
  | .adcSr _ => ⟨4, [.m1]⟩
  | .adcDp _ => ⟨3, [.m1, .dl]⟩
  | .adcDpIndL _ => ⟨6, [.m1, .dl]⟩
  | .adcImm _ => ⟨2, [.m1]⟩
  | .adcAbs _ => ⟨4, [.m1]⟩
  | .adcAbsL _ => ⟨5, [.m1]⟩
  | .adcDpIndY d => ⟨5, [.m1, .dl, .pxDpIndY d]⟩
  | .adcDpInd _ => ⟨5, [.m1, .dl]⟩
  | .adcSrIndY _ => ⟨7, [.m1]⟩
  | .adcDpX _ => ⟨4, [.m1, .dl]⟩
  | .adcDpIndLY _ => ⟨6, [.m1, .dl]⟩
  | .adcAbsY a => ⟨4, [.m1, .pxAbsY a]⟩
  | .adcAbsX a => ⟨4, [.m1, .pxAbsX a]⟩
  | .adcAbsLX _ => ⟨5, [.m1]⟩
  | .sbcDpIndX _ => ⟨6, [.m1, .dl]⟩
  | .sbcSr _ => ⟨4, [.m1]⟩
  | .sbcDp _ => ⟨3, [.m1, .dl]⟩
  | .sbcDpIndL _ => ⟨6, [.m1, .dl]⟩
  | .sbcImm _ => ⟨2, [.m1]⟩
  | .sbcAbs _ => ⟨4, [.m1]⟩
  | .sbcAbsL _ => ⟨5, [.m1]⟩
  | .sbcDpIndY d => ⟨5, [.m1, .dl, .pxDpIndY d]⟩
  | .sbcDpInd _ => ⟨5, [.m1, .dl]⟩
  | .sbcSrIndY _ => ⟨7, [.m1]⟩
  | .sbcDpX _ => ⟨4, [.m1, .dl]⟩
  | .sbcDpIndLY _ => ⟨6, [.m1, .dl]⟩
  | .sbcAbsY a => ⟨4, [.m1, .pxAbsY a]⟩
  | .sbcAbsX a => ⟨4, [.m1, .pxAbsX a]⟩
  | .sbcAbsLX _ => ⟨5, [.m1]⟩
  | .cmpDpIndX _ => ⟨6, [.m1, .dl]⟩
  | .cmpSr _ => ⟨4, [.m1]⟩
  | .cmpDp _ => ⟨3, [.m1, .dl]⟩
  | .cmpDpIndL _ => ⟨6, [.m1, .dl]⟩
  | .cmpImm _ => ⟨2, [.m1]⟩
  | .cmpAbs _ => ⟨4, [.m1]⟩
  | .cmpAbsL _ => ⟨5, [.m1]⟩
  | .cmpDpIndY d => ⟨5, [.m1, .dl, .pxDpIndY d]⟩
  | .cmpDpInd _ => ⟨5, [.m1, .dl]⟩
  | .cmpSrIndY _ => ⟨7, [.m1]⟩
  | .cmpDpX _ => ⟨4, [.m1, .dl]⟩
  | .cmpDpIndLY _ => ⟨6, [.m1, .dl]⟩
  | .cmpAbsY a => ⟨4, [.m1, .pxAbsY a]⟩
  | .cmpAbsX a => ⟨4, [.m1, .pxAbsX a]⟩
  | .cmpAbsLX _ => ⟨5, [.m1]⟩
  | .cpxImm _ => ⟨2, [.x1]⟩
  | .cpxDp _ => ⟨3, [.x1, .dl]⟩
  | .cpxAbs _ => ⟨4, [.x1]⟩
  | .cpyImm _ => ⟨2, [.x1]⟩
  | .cpyDp _ => ⟨3, [.x1, .dl]⟩
  | .cpyAbs _ => ⟨4, [.x1]⟩
  | .incAcc => ⟨2, []⟩
  | .incDp _ => ⟨5, [.m2, .dl]⟩
  | .incAbs _ => ⟨6, [.m2]⟩
  | .incDpX _ => ⟨6, [.m2, .dl]⟩
  | .incAbsX _ => ⟨7, [.m2]⟩
  | .inx => ⟨2, []⟩
  | .iny => ⟨2, []⟩
  | .decAcc => ⟨2, []⟩
  | .decDp _ => ⟨5, [.m2, .dl]⟩
  | .decAbs _ => ⟨6, [.m2]⟩
  | .decDpX _ => ⟨6, [.m2, .dl]⟩
  | .decAbsX _ => ⟨7, [.m2]⟩
  | .dex => ⟨2, []⟩
  | .dey => ⟨2, []⟩
  | .andDpIndX _ => ⟨6, [.m1, .dl]⟩
  | .andSr _ => ⟨4, [.m1]⟩
  | .andDp _ => ⟨3, [.m1, .dl]⟩
  | .andDpIndL _ => ⟨6, [.m1, .dl]⟩
  | .andImm _ => ⟨2, [.m1]⟩
  | .andAbs _ => ⟨4, [.m1]⟩
  | .andAbsL _ => ⟨5, [.m1]⟩
  | .andDpIndY d => ⟨5, [.m1, .dl, .pxDpIndY d]⟩
  | .andDpInd _ => ⟨5, [.m1, .dl]⟩
  | .andSrIndY _ => ⟨7, [.m1]⟩
  | .andDpX _ => ⟨4, [.m1, .dl]⟩
  | .andDpIndLY _ => ⟨6, [.m1, .dl]⟩
  | .andAbsY a => ⟨4, [.m1, .pxAbsY a]⟩
  | .andAbsX a => ⟨4, [.m1, .pxAbsX a]⟩
  | .andAbsLX _ => ⟨5, [.m1]⟩
  | .oraDpIndX _ => ⟨6, [.m1, .dl]⟩
  | .oraSr _ => ⟨4, [.m1]⟩
  | .oraDp _ => ⟨3, [.m1, .dl]⟩
  | .oraDpIndL _ => ⟨6, [.m1, .dl]⟩
  | .oraImm _ => ⟨2, [.m1]⟩
  | .oraAbs _ => ⟨4, [.m1]⟩
  | .oraAbsL _ => ⟨5, [.m1]⟩
  | .oraDpIndY d => ⟨5, [.m1, .dl, .pxDpIndY d]⟩
  | .oraDpInd _ => ⟨5, [.m1, .dl]⟩
  | .oraSrIndY _ => ⟨7, [.m1]⟩
  | .oraDpX _ => ⟨4, [.m1, .dl]⟩
  | .oraDpIndLY _ => ⟨6, [.m1, .dl]⟩
  | .oraAbsY a => ⟨4, [.m1, .pxAbsY a]⟩
  | .oraAbsX a => ⟨4, [.m1, .pxAbsX a]⟩
  | .oraAbsLX _ => ⟨5, [.m1]⟩
  | .eorDpIndX _ => ⟨6, [.m1, .dl]⟩
  | .eorSr _ => ⟨4, [.m1]⟩
  | .eorDp _ => ⟨3, [.m1, .dl]⟩
  | .eorDpIndL _ => ⟨6, [.m1, .dl]⟩
  | .eorImm _ => ⟨2, [.m1]⟩
  | .eorAbs _ => ⟨4, [.m1]⟩
  | .eorAbsL _ => ⟨5, [.m1]⟩
  | .eorDpIndY d => ⟨5, [.m1, .dl, .pxDpIndY d]⟩
  | .eorDpInd _ => ⟨5, [.m1, .dl]⟩
  | .eorSrIndY _ => ⟨7, [.m1]⟩
  | .eorDpX _ => ⟨4, [.m1, .dl]⟩
  | .eorDpIndLY _ => ⟨6, [.m1, .dl]⟩
  | .eorAbsY a => ⟨4, [.m1, .pxAbsY a]⟩
  | .eorAbsX a => ⟨4, [.m1, .pxAbsX a]⟩
  | .eorAbsLX _ => ⟨5, [.m1]⟩
  | .bitDp _ => ⟨3, [.m1, .dl]⟩
  | .bitAbs _ => ⟨4, [.m1]⟩
  | .bitDpX _ => ⟨4, [.m1, .dl]⟩
  | .bitAbsX a => ⟨4, [.m1, .pxAbsX a]⟩
  | .bitImm _ => ⟨2, [.m1]⟩
  | .tsbDp _ => ⟨5, [.m2, .dl]⟩
  | .tsbAbs _ => ⟨6, [.m2]⟩
  | .trbDp _ => ⟨5, [.m2, .dl]⟩
  | .trbAbs _ => ⟨6, [.m2]⟩
  | .aslDp _ => ⟨5, [.m2, .dl]⟩
  | .aslAcc => ⟨2, []⟩
  | .aslAbs _ => ⟨6, [.m2]⟩
  | .aslDpX _ => ⟨6, [.m2, .dl]⟩
  | .aslAbsX _ => ⟨7, [.m2]⟩
  | .lsrDp _ => ⟨5, [.m2, .dl]⟩
  | .lsrAcc => ⟨2, []⟩
  | .lsrAbs _ => ⟨6, [.m2]⟩
  | .lsrDpX _ => ⟨6, [.m2, .dl]⟩
  | .lsrAbsX _ => ⟨7, [.m2]⟩
  | .rolDp _ => ⟨5, [.m2, .dl]⟩
  | .rolAcc => ⟨2, []⟩
  | .rolAbs _ => ⟨6, [.m2]⟩
  | .rolDpX _ => ⟨6, [.m2, .dl]⟩
  | .rolAbsX _ => ⟨7, [.m2]⟩
  | .rorDp _ => ⟨5, [.m2, .dl]⟩
  | .rorAcc => ⟨2, []⟩
  | .rorAbs _ => ⟨6, [.m2]⟩
  | .rorDpX _ => ⟨6, [.m2, .dl]⟩
  | .rorAbsX _ => ⟨7, [.m2]⟩
  | .bcc r => ⟨2, [.bt .carryClear, .bp .carryClear r]⟩
  | .bcs r => ⟨2, [.bt .carrySet, .bp .carrySet r]⟩
  | .beq r => ⟨2, [.bt .equal, .bp .equal r]⟩
  | .bne r => ⟨2, [.bt .notEqual, .bp .notEqual r]⟩
  | .bmi r => ⟨2, [.bt .minus, .bp .minus r]⟩
  | .bpl r => ⟨2, [.bt .plus, .bp .plus r]⟩
  | .bvc r => ⟨2, [.bt .overflowClear, .bp .overflowClear r]⟩
  | .bvs r => ⟨2, [.bt .overflowSet, .bp .overflowSet r]⟩
  | .bra r => ⟨3, [.bp .always r]⟩
  | .brl _ => ⟨4, []⟩
  | .jmpAbs _ => ⟨3, []⟩
  | .jmpInd _ => ⟨5, []⟩
  | .jmpIndX _ => ⟨6, []⟩
  | .jmlAbsL _ => ⟨4, []⟩
  | .jmlIndL _ => ⟨6, []⟩
  | .jsrAbs _ => ⟨6, []⟩
  | .jsrIndX _ => ⟨8, []⟩
  | .jsl _ => ⟨8, []⟩
  | .rtl => ⟨6, []⟩
  | .rts => ⟨6, []⟩
  | .brk _ => ⟨7, [.ne]⟩
  | .cop _ => ⟨7, [.ne]⟩
  | .nop => ⟨2, []⟩
  | .wdm _ => ⟨2, []⟩
  | .rti => ⟨6, [.ne]⟩
  | .wai => ⟨3, [.wt]⟩
  | .stp => ⟨3, [.wt]⟩
  | .mvn _ _ => ⟨7, [.mv]⟩
  | .mvp _ _ => ⟨7, [.mv]⟩
  | .pha => ⟨3, [.m1]⟩
  | .phx => ⟨3, [.x1]⟩
  | .phy => ⟨3, [.x1]⟩
  | .php => ⟨3, []⟩
  | .phb => ⟨3, []⟩
  | .phk => ⟨3, []⟩
  | .phd => ⟨4, []⟩
  | .pea _ => ⟨5, []⟩
  | .pei _ => ⟨6, [.dl]⟩
  | .per _ => ⟨6, []⟩
  | .plx => ⟨4, [.x1]⟩
  | .ply => ⟨4, [.x1]⟩
  | .plb => ⟨4, []⟩
  | .pld => ⟨5, []⟩
  | .pla => ⟨4, [.m1]⟩
  | .plp => ⟨4, []⟩
  | .clc => ⟨2, []⟩
  | .sec => ⟨2, []⟩
  | .cli => ⟨2, []⟩
  | .sei => ⟨2, []⟩
  | .cld => ⟨2, []⟩
  | .sed => ⟨2, []⟩
  | .clv => ⟨2, []⟩
  | .rep _ => ⟨3, []⟩
  | .sep _ => ⟨3, []⟩
  | .xce => ⟨2, []⟩
  | .tax => ⟨2, []⟩
  | .tay => ⟨2, []⟩
  | .txa => ⟨2, []⟩
  | .tya => ⟨2, []⟩
  | .txy => ⟨2, []⟩
  | .tyx => ⟨2, []⟩
  | .tsx => ⟨2, []⟩
  | .txs => ⟨2, []⟩
  | .tcs => ⟨2, []⟩
  | .tcd => ⟨2, []⟩
  | .tdc => ⟨2, []⟩
  | .tsc => ⟨2, []⟩
  | .xba => ⟨3, []⟩

/-- A page is crossed when the index is added to the base address (R154). -/
def crossesPage (base : Addr) (idx : Word) : Bool := pageOf (addIndex base idx) != pageOf base

/-- The cycles one note adds, in the state after the instruction's fetch and before its effect (R633). -/
def CycleAdd.cycles (s : State) : CycleAdd → Nat
  | .m1 => if s.p.m then 0 else 1
  | .m2 => if s.p.m then 0 else 2
  | .x1 => if s.p.x then 0 else 1
  | .dl => if lo s.d == 0x00 then 0 else 1
  | .pxAbsX a   => if !s.p.x || crossesPage (mkAddr s.db a) s.x then 1 else 0
  | .pxAbsY a   => if !s.p.x || crossesPage (mkAddr s.db a) s.y then 1 else 0
  | .pxDpIndY d => if !s.p.x || crossesPage (mkAddr s.db (dpPointer d 0 s).1) s.y then 1 else 0
  | .bt k   => if k.holds s.p then 1 else 0
  | .bp k r => if k.holds s.p && s.e && hi (relTarget r s) != hi s.pc then 1 else 0
  | .ne => if s.e then 0 else 1
  | .mv => 0
  | .wt => 0

/-- `Cost(op, start)` (R633), in the state after the instruction's fetch and before its effect. -/
def instrCost (i : Instr) (s : State) : Nat :=
  (timingRow i).adds.foldl (fun n k => n + k.cycles s) (timingRow i).cycles

/-- The cost of a Step that takes an NMI or IRQ (R522). -/
def interruptCost (e : Bool) : Nat := if e then 7 else 8

/-- The cost of the Step that performs the reset (R600). -/
def resetCost : Nat := 7

end Sys2Proof.Machine
end

