-- ==== Sys2Proof/Machine/Cycle.lean ====
section
/-! DEFINITION. Fetching an instruction, running it, and the events of a Step boundary (spec R121, R515, R630, R631). -/

namespace Sys2Proof.Machine

/-- `Fetch8()` (R121): the byte at PB:PC; PC wraps within the bank. -/
def fetch8 (s : State) : Byte × State :=
  let b := read8 (mkAddr s.pb s.pc) s
  (b.1, b.2.withPC (s.pc + 1))

/-- `n` bytes at PB:PC, in address order (R121). -/
def fetchBytes : Nat → State → List Byte × State
  | 0, s => ([], s)
  | n + 1, s =>
    let b := fetch8 s
    let r := fetchBytes n b.2
    (b.1 :: r.1, r.2)

/-- The width flags the decoder needs (R124). -/
def State.widths (s : State) : Widths := ⟨s.p.m, s.p.x⟩

/-- A fetched instruction: its opcode, the instruction, and the state with PC after its last byte. -/
structure Fetched where
  op    : Byte
  instr : Instr
  state : State
deriving DecidableEq, Repr

/-- The opcode first, then exactly the operand bytes of its format (R121, R125). -/
def fetchInstr (s : State) : Fetched :=
  let o := fetch8 s
  let k := opcodeEntry o.1
  let r := fetchBytes (k.format.operandBytes s.widths) o.2
  { op := o.1, instr := k.make.build s.widths r.1, state := r.2 }

/-- The opcodes after which `before_final_flag_write` tests the old i: CLI, SEI, PLP, REP, SEP (R512). -/
def pollDelayOps : List Byte := [0x58, 0x78, 0x28, 0xC2, 0xE2]

/-- `i_poll` at the end of an instruction (R512, R630). -/
def pollValue (q : PollPoint) (op : Byte) (iBefore iAfter : Bool) : Bool :=
  match q with
  | .afterInstruction => iAfter
  | .beforeFinalFlagWrite => if pollDelayOps.contains op then iBefore else iAfter

/-- What a Step does after the instruction's rule (R630): page 1 is forced in emulation mode, `i_poll` is set and the
cost is returned. -/
def finishInstr (op : Byte) (iBefore : Bool) (cost : Nat) (s : State) : State :=
  let s1 := forcePageOne s
  (s1.withIPoll (pollValue s1.params.pollPoint op iBefore s1.p.i)).withCost cost

/-- The branch `execute` of R630: fetch, perform the rule, finish. -/
def executeOne (s : State) : Result :=
  let f := fetchInstr s
  match exec f.instr f.state with
  | .next t    => .next (finishInstr f.op s.p.i (instrCost f.instr f.state) t)
  | .fault r   => .fault r
  | .refused r => .refused r

/-- A Step that takes an NMI or IRQ and executes no instruction (R515, R630). -/
def interruptStep (k : Interrupt) (s : State) : State := (takeInterrupt k s).withCost (interruptCost s.e)

/-- The events of a Step boundary in their priority order: NMI, then IRQ, then the instruction (R515, R630). -/
def pollThenExecute (s : State) : Result :=
  if s.nmiPending then .next (interruptStep .nmi s)
  else if s.irqLine && !s.iPoll then .next (interruptStep .irq s)
  else executeOne s

/-- A Step that waits or is stopped: no bus access, no change of state (R631). -/
def idleStep (s : State) : State := s.withCost s.params.waitStepCycles

/-- A Step's outputs start empty: no cost yet, no bus access yet. -/
def State.beginStep (s : State) : State := { s with cost := 0, bus := { s.bus with log := [] } }

/-- The waiting state with an interrupt input asserted: the core wakes; an IRQ with i = 1 resumes without entry (R630). -/
def wakeStep (s : State) : Result :=
  if !s.nmiPending && s.p.i then executeOne (s.withRun .running) else pollThenExecute (s.withRun .running)

/-- `Step()` after its outputs are emptied (R630). -/
def stepBody (s : State) : Result :=
  if s.resetPending then .next ((resetSequence s.resetKind s).withCost resetCost)
  else
    match s.run with
    | .stopped => .next (idleStep s)
    | .waiting => if !s.nmiPending && !s.irqLine then .next (idleStep s) else wakeStep s
    | .running => pollThenExecute s

/-- The bytes at PB:PC, PB:PC+1, … replaced in memory, as a loader places a program there. -/
def placeBytes (pb : Byte) (pc : Word) : List Byte → Memory → Memory
  | [], m => m
  | b :: bs, m => placeBytes pb (pc + 1) bs (m.write (mkAddr pb pc).toNat b)

/-- The four addresses an instruction at PB:PC can occupy are RAM or ROM. -/
def State.codeBacked (s : State) : Bool :=
  [0, 1, 2, 3].all fun k => s.backed (mkAddr s.pb (s.pc + k))

/-- The state made ready to run the instruction at PB:PC in its next Step: running, no reset or NMI pending, no IRQ it
would take, and code memory that is read from memory. -/
def State.readyToFetch (s : State) : State :=
  { s with
    run := .running, nmiPending := false, resetPending := false, irqLine := s.irqLine && s.iPoll
    bus := { s.bus with regions := if s.codeBacked then s.bus.regions else [] } }

end Sys2Proof.Machine
end

