-- ==== Sys2Proof/Machine/Step.lean ====
section
/-! DEFINITION. One Step of the core (spec R630), and an instruction placed where the next Step fetches. -/

namespace Sys2Proof.Machine

/-- `Step()` (R630). The cost it returns is the new state's `cost`, its bus accesses are the new state's `bus.log`. -/
def step (s : State) : Host.Outcome State Fault Refusal := stepBody s.beginStep

/-- The state with an instruction, its bits numbered as in the opcode table, stored at PB:PC, and ready to run it in the
next Step (log entry 8). -/
def State.withFetchWord (s : State) (nbits w : Nat) : State :=
  let r := s.readyToFetch
  { r with bus := { r.bus with mem := placeBytes s.pb s.pc (wordBytes (tableWord nbits w)) r.bus.mem } }

end Sys2Proof.Machine
end

