-- ==== Sys2Proof/Machine/Assembler.lean ====
section
/-! DEFINITION. The assembler's view of an instruction (spec R132 to R135): its mnemonic, WDC's operand text, the alias
mnemonics, and the displacement of a relative operand. No rule of the machine reads it. -/

namespace Sys2Proof.Machine


/-- The mnemonics of the opcode map (R126), row by row. -/
def mnemonicMap : List (List String) :=
  [["BRK", "ORA", "COP", "ORA", "TSB", "ORA", "ASL", "ORA", "PHP",
    "ORA", "ASL", "PHD", "TSB", "ORA", "ASL", "ORA"],
   ["BPL", "ORA", "ORA", "ORA", "TRB", "ORA", "ASL", "ORA", "CLC",
    "ORA", "INC", "TCS", "TRB", "ORA", "ASL", "ORA"],
   ["JSR", "AND", "JSL", "AND", "BIT", "AND", "ROL", "AND", "PLP",
    "AND", "ROL", "PLD", "BIT", "AND", "ROL", "AND"],
   ["BMI", "AND", "AND", "AND", "BIT", "AND", "ROL", "AND", "SEC",
    "AND", "DEC", "TSC", "BIT", "AND", "ROL", "AND"],
   ["RTI", "EOR", "WDM", "EOR", "MVP", "EOR", "LSR", "EOR", "PHA",
    "EOR", "LSR", "PHK", "JMP", "EOR", "LSR", "EOR"],
   ["BVC", "EOR", "EOR", "EOR", "MVN", "EOR", "LSR", "EOR", "CLI",
    "EOR", "PHY", "TCD", "JML", "EOR", "LSR", "EOR"],
   ["RTS", "ADC", "PER", "ADC", "STZ", "ADC", "ROR", "ADC", "PLA",
    "ADC", "ROR", "RTL", "JMP", "ADC", "ROR", "ADC"],
   ["BVS", "ADC", "ADC", "ADC", "STZ", "ADC", "ROR", "ADC", "SEI",
    "ADC", "PLY", "TDC", "JMP", "ADC", "ROR", "ADC"],
   ["BRA", "STA", "BRL", "STA", "STY", "STA", "STX", "STA", "DEY",
    "BIT", "TXA", "PHB", "STY", "STA", "STX", "STA"],
   ["BCC", "STA", "STA", "STA", "STY", "STA", "STX", "STA", "TYA",
    "STA", "TXS", "TXY", "STZ", "STA", "STZ", "STA"],
   ["LDY", "LDA", "LDX", "LDA", "LDY", "LDA", "LDX", "LDA", "TAY",
    "LDA", "TAX", "PLB", "LDY", "LDA", "LDX", "LDA"],
   ["BCS", "LDA", "LDA", "LDA", "LDY", "LDA", "LDX", "LDA", "CLV",
    "LDA", "TSX", "TYX", "LDY", "LDA", "LDX", "LDA"],
   ["CPY", "CMP", "REP", "CMP", "CPY", "CMP", "DEC", "CMP", "INY",
    "CMP", "DEX", "WAI", "CPY", "CMP", "DEC", "CMP"],
   ["BNE", "CMP", "CMP", "CMP", "PEI", "CMP", "DEC", "CMP", "CLD",
    "CMP", "PHX", "STP", "JML", "CMP", "DEC", "CMP"],
   ["CPX", "SBC", "SEP", "SBC", "CPX", "SBC", "INC", "SBC", "INX",
    "SBC", "NOP", "XBA", "CPX", "SBC", "INC", "SBC"],
   ["BEQ", "SBC", "SBC", "SBC", "PEA", "SBC", "INC", "SBC", "SED",
    "SBC", "PLX", "XCE", "JSR", "SBC", "INC", "SBC"]]

/-- The mnemonic of an opcode. -/
def mnemonicOf (op : Byte) : String := (mnemonicMap.getD (op.toNat / 16) []).getD (op.toNat % 16) ""

/-- The mnemonic of an instruction, as the opcode table spells it. -/
def mnemonic (i : Instr) : String := mnemonicOf ((encode i).headD 0xEA)

/-- An alias mnemonic and the opcodes it may stand for (R133). -/
def aliasTable : List (String × List Byte) :=
  [("BLT", [0x90]), ("BGE", [0xB0]), ("JMP", [0x5C, 0xDC]), ("JSR", [0x22]), ("TAS", [0x1B]), ("TSA", [0x3B]),
   ("TAD", [0x5B]), ("TDA", [0x7B]), ("SWA", [0xEB]), ("INA", [0x1A]), ("DEA", [0x3A]),
   ("CPA", [0xC1, 0xC3, 0xC5, 0xC7, 0xC9, 0xCD, 0xCF, 0xD1, 0xD2, 0xD3, 0xD5, 0xD7, 0xD9, 0xDD, 0xDF])]

/-- One hexadecimal digit. -/
def hexDigit (n : Nat) : Char := ("0123456789ABCDEF".toList).getD n '0'

/-- A number as `n` hexadecimal digits. -/
def hexDigits : Nat → Nat → List Char
  | 0, _ => []
  | n + 1, v => hexDigits n (v / 16) ++ [hexDigit (v % 16)]

/-- A number in assembler notation (R10, R132): a dollar sign and `n` hexadecimal digits. -/
def hexText (n v : Nat) : String := "$" ++ String.ofList (hexDigits n v)

/-- The operand text of a format (R122, R132): `bs` are the instruction's bytes after the opcode, `next` the offset of
the next instruction, from which a relative target is found (R135). A block move is written source bank first (R134). -/
def operandText (next : Word) (bs : List Byte) : Format → String
  | .imp | .stk => ""
  | .acc => "A"
  | .immM | .immX => "#" ++ hexText (2 * bs.length) (if bs.length = 1 then (operandByte bs).toNat else (operandWord bs).toNat)
  | .imm8 | .sig | .wdmb => "#" ++ hexText 2 (operandByte bs).toNat
  | .imm16 => hexText 4 (operandWord bs).toNat
  | .dp => hexText 2 (operandByte bs).toNat
  | .dpX => hexText 2 (operandByte bs).toNat ++ ",X"
  | .dpY => hexText 2 (operandByte bs).toNat ++ ",Y"
  | .dpInd | .pei => "(" ++ hexText 2 (operandByte bs).toNat ++ ")"
  | .dpIndX => "(" ++ hexText 2 (operandByte bs).toNat ++ ",X)"
  | .dpIndY => "(" ++ hexText 2 (operandByte bs).toNat ++ "),Y"
  | .dpIndL => "[" ++ hexText 2 (operandByte bs).toNat ++ "]"
  | .dpIndLY => "[" ++ hexText 2 (operandByte bs).toNat ++ "],Y"
  | .sr => hexText 2 (operandByte bs).toNat ++ ",S"
  | .srIndY => "(" ++ hexText 2 (operandByte bs).toNat ++ ",S),Y"
  | .rel => hexText 4 (next + (operandByte bs).signExtend 16).toNat
  | .relL => hexText 4 (next + operandWord bs).toNat
  | .blk => hexText 2 (operandByte2 bs).toNat ++ "," ++ hexText 2 (operandByte bs).toNat
  | .abs | .absPc => hexText 4 (operandWord bs).toNat
  | .absX => hexText 4 (operandWord bs).toNat ++ ",X"
  | .absY => hexText 4 (operandWord bs).toNat ++ ",Y"
  | .absInd => "(" ++ hexText 4 (operandWord bs).toNat ++ ")"
  | .absIndX => "(" ++ hexText 4 (operandWord bs).toNat ++ ",X)"
  | .absIndL => "[" ++ hexText 4 (operandWord bs).toNat ++ "]"
  | .absL | .absLPc => hexText 6 (operandLong bs).toNat
  | .absLX => hexText 6 (operandLong bs).toNat ++ ",X"

/-- The assembler text of an instruction whose successor stands at offset `next` (R132). -/
def assemblerText (next : Word) (i : Instr) : String :=
  match encode i with
  | [] => ""
  | op :: bs =>
    let o := operandText next bs (opcodeEntry op).format
    if o = "" then mnemonicOf op else mnemonicOf op ++ " " ++ o

/-- The displacement byte of a branch from the instruction before `next` to `target` (R135), where it is in reach. -/
def relDisplacement (target next : Word) : Option Byte :=
  let r := (target - next).toInt
  if -128 ≤ r ∧ r ≤ 127 then some (BitVec.ofInt 8 r) else none

/-- The displacement word of BRL and PER (R135): every offset of the bank is in reach. -/
def relLongDisplacement (target next : Word) : Word := target - next

/-- A block move from the assembler's operand order, source bank first (R134). -/
def assembleMvn (source destination : Byte) : Instr := .mvn destination source

/-- A block move from the assembler's operand order, source bank first (R134). -/
def assembleMvp (source destination : Byte) : Instr := .mvp destination source

end Sys2Proof.Machine
end

