-- ==== Sys2Proof/Machine/Inputs.lean ====
section
/-! DEFINITION. What the outside does to the core between two Steps (spec R505, R602, R99), what it reads of it (R60,
R548), and the save state it takes and restores (R59). -/

namespace Sys2Proof.Machine

/-- The NMI line rises: the edge is latched; a second rise while it is latched has no further effect (R505). -/
def State.raiseNmi (s : State) : State := s.withNmiPending true

/-- The orchestrator drives the IRQ line, a level the core never changes (R505). -/
def State.driveIrq (level : Bool) (s : State) : State := { s with irqLine := level }

/-- The host asks for a reset, taken at the next Step (R602). -/
def State.requestReset (k : ResetKind) (s : State) : State := { s with resetPending := true, resetKind := k }

/-- Another agent of the bus (HDMA, a loader) puts a byte into memory between two Steps (R95, R99, R603). It is no
access of the core, so the log keeps out of it. -/
def State.agentWrite (a : Addr) (v : Byte) (s : State) : State :=
  s.withBus { s.bus with mem := s.bus.mem.write a.toNat v }

/-- A bus-side transfer between two Steps (HDMA, R95): a list of such bytes, ROM keeping its image. -/
def State.agentTransfer (cells : List (Addr × Byte)) (s : State) : State :=
  s.withBus { s.bus with mem := agentCells s.bus.regions cells s.bus.mem }

/-- What lies behind the oracle addresses moves on between two Steps: the PPU, the APU ports, a device register another
agent writes (R92, R99). -/
def State.devicesMove (n : Nat) (s : State) : State := s.withBus { s.bus with devices := n }

/-- The inspection snapshot (R60). -/
structure Snapshot where
  c   : Word
  x   : Word
  y   : Word
  sp  : Word
  d   : Word
  db  : Byte
  pb  : Byte
  pc  : Word
  p   : Byte
  e   : Bool
  run : RunState
deriving DecidableEq, Repr

/-- Taking the snapshot: a read-only copy, P as the byte PHP would push (R40, R60; log entry 15). -/
def State.snapshot (s : State) : Snapshot :=
  { c := s.c, x := s.x, y := s.y, sp := s.sp, d := s.d, db := s.db, pb := s.pb, pc := s.pc
    p := pByte s.e true s.p, e := s.e, run := s.run }

/-- The save state of the core (R59): every field of R30, the hidden state of R55 included. It holds no `unknown` marks,
since State holds none (log entry 1). -/
structure SaveState where
  c            : Word
  x            : Word
  y            : Word
  sp           : Word
  d            : Word
  db           : Byte
  pb           : Byte
  pc           : Word
  p            : Flags
  e            : Bool
  run          : RunState
  nmiPending   : Bool
  resetPending : Bool
  iPoll        : Bool
deriving DecidableEq, Repr

/-- Taking the save state (R59). -/
def State.save (s : State) : SaveState :=
  { c := s.c, x := s.x, y := s.y, sp := s.sp, d := s.d, db := s.db, pb := s.pb, pc := s.pc, p := s.p, e := s.e, run := s.run
    nmiPending := s.nmiPending, resetPending := s.resetPending, iPoll := s.iPoll }

/-- Restoring a save state sets every field of R30 (R59). What is no state of the core stays: the bus, the IRQ line and the
parameters, with `RESET_KIND` (log entry 16). -/
def State.restore (k : SaveState) (s : State) : State :=
  { s with
    c := k.c, x := k.x, y := k.y, sp := k.sp, d := k.d, db := k.db, pb := k.pb, pc := k.pc, p := k.p, e := k.e, run := k.run
    nmiPending := k.nmiPending, resetPending := k.resetPending, iPoll := k.iPoll }

end Sys2Proof.Machine
end

