-- ==== Sys2Proof/Safety.lean ====
section
/-! DEFINITION. What holds of the state at every Step boundary, and what a safe Step and a safe run are. -/

namespace Sys2Proof.Machine

/-- The invariant of a Step boundary: memory is in canonical form; a set x keeps the high bytes of X and Y at 0 (R34);
in emulation mode m and x are 1 and S[15:8] is 0x01 (R43); the parameters are legal (R8, R90). -/
structure Inv (s : State) : Prop where
  memory      : s.bus.mem.wf = true
  narrowX     : s.p.x = true → hi s.x = 0x00
  narrowY     : s.p.x = true → hi s.y = 0x00
  emulationM  : s.e = true → s.p.m = true
  emulationX  : s.e = true → s.p.x = true
  emulationS  : s.e = true → hi s.sp = 0x01
  params      : s.params.wf = true

/-- The Step ends in a next state: no fault, no refusal. -/
def Completes (s : State) : Prop := ∃ t, step s = .next t

/-- The states a run of Steps reaches from `s`, the outside changing nothing in between. -/
inductive Reaches (s : State) : State → Prop where
  | start : Reaches s s
  | step {t u : State} : Reaches s t → step t = .next u → Reaches s u

/-- A safe run: every state it reaches completes its next Step and meets the invariant. -/
def SafeFrom (s : State) : Prop := ∀ t, Reaches s t → Inv t ∧ Completes t

end Sys2Proof.Machine
end

