-- ==== Sys2Proof/Certificates/Slice0/Obligations.lean ====
section
/-! DEFINITION. The statements for the provers, from the numbered rules of the spec. `Sys2Proof.Claim` holds the words they
share: the results at a width, the forms of each instruction with their operands, what a store does to memory. -/

namespace Sys2Proof.Claim

open Machine

/-! Results at the width a flag selects (R44, R45): `narrow` is m or x. -/

/-- C after a result `r` is written to the accumulator: with m = 1 only A changes. -/
def accResult (narrow : Bool) (old r : Word) : Word := if narrow then pair (hi old) (lo r) else r

/-- An index register after a result `r` is written to it: with x = 1 its high byte is 0. -/
def indexResult (narrow : Bool) (r : Word) : Word := if narrow then zext16 (lo r) else r

/-- The top bit of a value at the width. -/
def topBit (narrow : Bool) (r : Word) : Bool := if narrow then r.getLsbD 7 else r.getLsbD 15

/-- The value is zero at the width. -/
def isZero (narrow : Bool) (r : Word) : Bool := if narrow then decide (lo r = 0x00) else decide (r = 0x0000)

/-- n and z from a value, every other flag as before. -/
def nzFrom (narrow : Bool) (r : Word) (p : Flags) : Flags := { p with n := topBit narrow r, z := isZero narrow r }

/-- The unsigned comparison of R272 to R274: the register is not below the operand. -/
def notBelow (narrow : Bool) (r m : Word) : Bool :=
  if narrow then decide ((lo m).toNat ≤ (lo r).toNat) else decide (m.toNat ≤ r.toNat)

/-- The low w bits of a register as a number. -/
def natAt (w : Width) (v : Word) : Nat := v.toNat % 2 ^ w.bits

/-- The low w bits of a register as a signed number. -/
def intAt (w : Width) (v : Word) : Int :=
  if natAt w v < 2 ^ (w.bits - 1) then natAt w v else (natAt w v : Int) - 2 ^ w.bits

/-- The `k` low decimal digits of a BCD number, as a number. -/
def bcdValue : Nat → Nat → Nat
  | 0, _ => 0
  | k + 1, v => v % 16 + 10 * bcdValue k (v / 16)

/-- The `k` low hexadecimal digits are decimal digits. -/
def bcdValid : Nat → Nat → Bool
  | 0, _ => true
  | k + 1, v => decide (v % 16 ≤ 9) && bcdValid k (v / 16)

/-! Memory. -/

/-- Every byte of memory reads as before. -/
def SameMemory (s t : State) : Prop := ∀ a : Addr, t.peek a = s.peek a

/-- What a store of width `w` at `ea` does to memory, where the bytes stored to are RAM or ROM: every other byte reads as
before, and a byte stored to RAM reads back. -/
def Stored (w : Width) (ea : EA) (v : Word) (s t : State) : Prop :=
  (s.backed ea.addr = true ∧ (w = .w16 → s.backed (ea.step.next ea.addr) = true)) →
    (∀ a : Addr, a ≠ ea.addr → (w = .w16 → a ≠ ea.step.next ea.addr) → t.peek a = s.peek a) ∧
    (s.bus.mem.wf = true → s.ram ea.addr = true → t.peek ea.addr = lo v) ∧
    (s.bus.mem.wf = true → w = .w16 → s.ram (ea.step.next ea.addr) = true → t.peek (ea.step.next ea.addr) = hi v)

/-- S one byte lower (R88, R89): in emulation mode it wraps in page 1 unless the access is linear. -/
def below (e lin : Bool) (v : Word) : Word := if e = true ∧ lin = false then pair (hi v) (lo v - 1) else v - 1

/-- S one byte higher (R88, R89). -/
def above (e lin : Bool) (v : Word) : Word := if e = true ∧ lin = false then pair (hi v) (lo v + 1) else v + 1

/-- The opcode is in `EMU_LINEAR_STACK_OPS`. -/
def linear (s : State) (op : Byte) : Bool := s.params.linearStackOps.contains op

/-- The instruction pushes one byte and changes nothing else. -/
def PushesByte (i : Instr) (lin : Bool) (v : Byte) (s : State) : Prop :=
  ∃ t, exec i s = .next t ∧
    t = { s with sp := below s.e lin s.sp, bus := s.bus.write8 (bank0 s.sp) v } ∧
    Stored .w8 ⟨bank0 s.sp, .bank⟩ (zext16 v) s t

/-- The bytes of `cells` are written and no other: where they are RAM or ROM, every other byte of memory reads as before,
and each of them that is RAM reads back. -/
def WritesBytes (cells : List (Addr × Byte)) (s t : State) : Prop :=
  (∀ c ∈ cells, s.backed c.1 = true) →
    (∀ a : Addr, (∀ c ∈ cells, a ≠ c.1) → t.peek a = s.peek a) ∧
    (s.bus.mem.wf = true → ∀ c ∈ cells, s.ram c.1 = true → t.peek c.1 = c.2)

/-- The stack bytes of a 16-bit push: the high byte at S, the low byte below it. -/
def wordCells (lin : Bool) (v : Word) (s : State) : List (Addr × Byte) :=
  [(bank0 s.sp, hi v), (bank0 (below s.e lin s.sp), lo v)]

/-- The stack bytes of a 24-bit push: the bank at S, the high byte and the low byte below it. -/
def longCells (lin : Bool) (k : Byte) (v : Word) (s : State) : List (Addr × Byte) :=
  let d1 := below s.e lin s.sp
  [(bank0 s.sp, k), (bank0 d1, hi v), (bank0 (below s.e lin d1), lo v)]

/-- The frame of an interrupt entry (R520): PB in native mode, then PCH, PCL and P with the kind's B flag. -/
def entryFrame (k : Interrupt) (s : State) : List (Addr × Byte) :=
  let d1 := below s.e false s.sp
  let d2 := below s.e false d1
  let d3 := below s.e false d2
  if s.e then [(bank0 s.sp, hi s.pc), (bank0 d1, lo s.pc), (bank0 d2, pByte true k.bflag s.p)]
  else [(bank0 s.sp, s.pb), (bank0 d1, hi s.pc), (bank0 d2, lo s.pc), (bank0 d3, pByte false k.bflag s.p)]

/-- A 16-bit push: the high byte at S, the low byte below it, every other byte of memory as before. -/
def PushedWord (lin : Bool) (v : Word) (s t : State) : Prop := WritesBytes (wordCells lin v s) s t

/-- The state after a 16-bit push, high byte first (R88). -/
def afterPushWord (lin : Bool) (v : Word) (s : State) : State :=
  { s with
    sp := below s.e lin (below s.e lin s.sp)
    bus := (s.bus.write8 (bank0 s.sp) (hi v)).write8 (bank0 (below s.e lin s.sp)) (lo v) }

/-- The instruction pushes a 16-bit value and changes nothing else. -/
def PushesWord (i : Instr) (lin : Bool) (v : Word) (s : State) : Prop :=
  ∃ t, exec i s = .next t ∧ t = afterPushWord lin v s ∧ PushedWord lin v s t

/-- In emulation mode the stack accesses of opcode `op` are not linear, or S is at least `n` bytes above the bottom of its
page (R90). -/
def StaysInPageOne (op : Byte) (n : Nat) (s : State) : Prop := s.e = true → linear s op = false ∨ n ≤ (lo s.sp).toNat

/-- `ret`, run right after `call`, brings every register back, S[15:8] being forced after each in emulation mode as the
Step does (R90), and leaves every byte of memory outside `cells` as before. -/
def Returns (call ret : Instr) (cells : List (Addr × Byte)) (s : State) : Prop :=
  ∃ t u, exec call s = .next t ∧ exec ret (forcePageOne t) = .next u ∧ forcePageOne u = { s with bus := u.bus } ∧
    ∀ a : Addr, (∀ c ∈ cells, a ≠ c.1) → u.peek a = s.peek a

/-- The instruction pushes a register of the width its flag selects and changes nothing else. -/
def PushesReg (i : Instr) (lin narrow : Bool) (v : Word) (s : State) : Prop :=
  (narrow = true → PushesByte i lin (lo v) s) ∧ (narrow = false → PushesWord i lin v s)

/-- The instruction reads, changes memory at the mode's address by `f`, and takes the flags `f` gives (R86). -/
def ModifiesMemory (i : Instr) (ea : State → EA × State) (s : State) (f : Word → Word × Flags) : Prop :=
  let w := widthOf s.p.m
  let a := (ea s).1
  let v := memRead w a (ea s).2
  ∃ t, exec i s = .next t ∧
    t = { s with p := (f v.1).2, bus := v.2.bus.writeRmw w a.step a.addr (f v.1).1 } ∧
    Stored w a (f v.1).1 s t

/-- The instruction replaces the accumulator by `f` of it and takes the flags `f` gives. -/
def ModifiesAcc (i : Instr) (s : State) (f : Word → Word × Flags) : Prop :=
  let v := if s.p.m then zext16 (lo s.c) else s.c
  exec i s = .next { s with c := accResult s.p.m s.c (f v).1, p := (f v).2 }

/-! The one-bit shifts and rotates of R306 to R309 on a value of the width. -/

def shiftLeft (narrow : Bool) (p : Flags) (v : Word) : Word × Flags :=
  (v <<< 1, nzFrom narrow (v <<< 1) { p with c := topBit narrow v })

def shiftRight (narrow : Bool) (p : Flags) (v : Word) : Word × Flags :=
  (v >>> 1, nzFrom narrow (v >>> 1) { p with c := v.getLsbD 0 })

def rotateLeft (narrow : Bool) (p : Flags) (v : Word) : Word × Flags :=
  let r := (v <<< 1) ||| (if p.c then 0x0001 else 0x0000)
  (r, nzFrom narrow r { p with c := topBit narrow v })

def rotateRight (narrow : Bool) (p : Flags) (v : Word) : Word × Flags :=
  let r := (v >>> 1) ||| (if p.c then (if narrow then 0x0080 else 0x8000) else 0x0000)
  (r, nzFrom narrow r { p with c := v.getLsbD 0 })

/-- INC and DEC: n and z from the result (R275, R278). -/
def counted (narrow : Bool) (p : Flags) (r : Word) : Word × Flags := (r, nzFrom narrow r p)

/-! The forms of each instruction, with the operand or the effective address of each (opcode_table.json). -/


/-- The forms of LDA (R200). -/
def formsLDA (P : Instr → List Byte → (State → Word × State) → Prop) : Prop :=
  (∀ d : Byte, P (.ldaDpIndX d) [0xA1, d] (memOperand State.mw (eaDpIndX d))) ∧
  (∀ n : Byte, P (.ldaSr n) [0xA3, n] (memOperand State.mw (eaSr n))) ∧
  (∀ d : Byte, P (.ldaDp d) [0xA5, d] (memOperand State.mw (eaDp d))) ∧
  (∀ d : Byte, P (.ldaDpIndL d) [0xA7, d] (memOperand State.mw (eaDpIndL 0xA7 d))) ∧
  (∀ v : Imm, P (.ldaImm v) (0xA9 :: v.bytes) (immOperand State.mw v)) ∧
  (∀ a : Word, P (.ldaAbs a) [0xAD, lo a, hi a] (memOperand State.mw (eaAbs a))) ∧
  (∀ al : Addr, P (.ldaAbsL al) [0xAF, lo (offOf al), hi (offOf al), bankOf al] (memOperand State.mw (eaAbsL al))) ∧
  (∀ d : Byte, P (.ldaDpIndY d) [0xB1, d] (memOperand State.mw (eaDpIndY d))) ∧
  (∀ d : Byte, P (.ldaDpInd d) [0xB2, d] (memOperand State.mw (eaDpInd d))) ∧
  (∀ n : Byte, P (.ldaSrIndY n) [0xB3, n] (memOperand State.mw (eaSrIndY n))) ∧
  (∀ d : Byte, P (.ldaDpX d) [0xB5, d] (memOperand State.mw (eaDpX d))) ∧
  (∀ d : Byte, P (.ldaDpIndLY d) [0xB7, d] (memOperand State.mw (eaDpIndLY 0xB7 d))) ∧
  (∀ a : Word, P (.ldaAbsY a) [0xB9, lo a, hi a] (memOperand State.mw (eaAbsY a))) ∧
  (∀ a : Word, P (.ldaAbsX a) [0xBD, lo a, hi a] (memOperand State.mw (eaAbsX a))) ∧
  (∀ al : Addr, P (.ldaAbsLX al) [0xBF, lo (offOf al), hi (offOf al), bankOf al] (memOperand State.mw (eaAbsLX al)))

/-- The forms of ADC (R270). -/
def formsADC (P : Instr → List Byte → (State → Word × State) → Prop) : Prop :=
  (∀ d : Byte, P (.adcDpIndX d) [0x61, d] (memOperand State.mw (eaDpIndX d))) ∧
  (∀ n : Byte, P (.adcSr n) [0x63, n] (memOperand State.mw (eaSr n))) ∧
  (∀ d : Byte, P (.adcDp d) [0x65, d] (memOperand State.mw (eaDp d))) ∧
  (∀ d : Byte, P (.adcDpIndL d) [0x67, d] (memOperand State.mw (eaDpIndL 0x67 d))) ∧
  (∀ v : Imm, P (.adcImm v) (0x69 :: v.bytes) (immOperand State.mw v)) ∧
  (∀ a : Word, P (.adcAbs a) [0x6D, lo a, hi a] (memOperand State.mw (eaAbs a))) ∧
  (∀ al : Addr, P (.adcAbsL al) [0x6F, lo (offOf al), hi (offOf al), bankOf al] (memOperand State.mw (eaAbsL al))) ∧
  (∀ d : Byte, P (.adcDpIndY d) [0x71, d] (memOperand State.mw (eaDpIndY d))) ∧
  (∀ d : Byte, P (.adcDpInd d) [0x72, d] (memOperand State.mw (eaDpInd d))) ∧
  (∀ n : Byte, P (.adcSrIndY n) [0x73, n] (memOperand State.mw (eaSrIndY n))) ∧
  (∀ d : Byte, P (.adcDpX d) [0x75, d] (memOperand State.mw (eaDpX d))) ∧
  (∀ d : Byte, P (.adcDpIndLY d) [0x77, d] (memOperand State.mw (eaDpIndLY 0x77 d))) ∧
  (∀ a : Word, P (.adcAbsY a) [0x79, lo a, hi a] (memOperand State.mw (eaAbsY a))) ∧
  (∀ a : Word, P (.adcAbsX a) [0x7D, lo a, hi a] (memOperand State.mw (eaAbsX a))) ∧
  (∀ al : Addr, P (.adcAbsLX al) [0x7F, lo (offOf al), hi (offOf al), bankOf al] (memOperand State.mw (eaAbsLX al)))

/-- The forms of SBC (R271). -/
def formsSBC (P : Instr → List Byte → (State → Word × State) → Prop) : Prop :=
  (∀ d : Byte, P (.sbcDpIndX d) [0xE1, d] (memOperand State.mw (eaDpIndX d))) ∧
  (∀ n : Byte, P (.sbcSr n) [0xE3, n] (memOperand State.mw (eaSr n))) ∧
  (∀ d : Byte, P (.sbcDp d) [0xE5, d] (memOperand State.mw (eaDp d))) ∧
  (∀ d : Byte, P (.sbcDpIndL d) [0xE7, d] (memOperand State.mw (eaDpIndL 0xE7 d))) ∧
  (∀ v : Imm, P (.sbcImm v) (0xE9 :: v.bytes) (immOperand State.mw v)) ∧
  (∀ a : Word, P (.sbcAbs a) [0xED, lo a, hi a] (memOperand State.mw (eaAbs a))) ∧
  (∀ al : Addr, P (.sbcAbsL al) [0xEF, lo (offOf al), hi (offOf al), bankOf al] (memOperand State.mw (eaAbsL al))) ∧
  (∀ d : Byte, P (.sbcDpIndY d) [0xF1, d] (memOperand State.mw (eaDpIndY d))) ∧
  (∀ d : Byte, P (.sbcDpInd d) [0xF2, d] (memOperand State.mw (eaDpInd d))) ∧
  (∀ n : Byte, P (.sbcSrIndY n) [0xF3, n] (memOperand State.mw (eaSrIndY n))) ∧
  (∀ d : Byte, P (.sbcDpX d) [0xF5, d] (memOperand State.mw (eaDpX d))) ∧
  (∀ d : Byte, P (.sbcDpIndLY d) [0xF7, d] (memOperand State.mw (eaDpIndLY 0xF7 d))) ∧
  (∀ a : Word, P (.sbcAbsY a) [0xF9, lo a, hi a] (memOperand State.mw (eaAbsY a))) ∧
  (∀ a : Word, P (.sbcAbsX a) [0xFD, lo a, hi a] (memOperand State.mw (eaAbsX a))) ∧
  (∀ al : Addr, P (.sbcAbsLX al) [0xFF, lo (offOf al), hi (offOf al), bankOf al] (memOperand State.mw (eaAbsLX al)))

/-- The forms of CMP (R272). -/
def formsCMP (P : Instr → List Byte → (State → Word × State) → Prop) : Prop :=
  (∀ d : Byte, P (.cmpDpIndX d) [0xC1, d] (memOperand State.mw (eaDpIndX d))) ∧
  (∀ n : Byte, P (.cmpSr n) [0xC3, n] (memOperand State.mw (eaSr n))) ∧
  (∀ d : Byte, P (.cmpDp d) [0xC5, d] (memOperand State.mw (eaDp d))) ∧
  (∀ d : Byte, P (.cmpDpIndL d) [0xC7, d] (memOperand State.mw (eaDpIndL 0xC7 d))) ∧
  (∀ v : Imm, P (.cmpImm v) (0xC9 :: v.bytes) (immOperand State.mw v)) ∧
  (∀ a : Word, P (.cmpAbs a) [0xCD, lo a, hi a] (memOperand State.mw (eaAbs a))) ∧
  (∀ al : Addr, P (.cmpAbsL al) [0xCF, lo (offOf al), hi (offOf al), bankOf al] (memOperand State.mw (eaAbsL al))) ∧
  (∀ d : Byte, P (.cmpDpIndY d) [0xD1, d] (memOperand State.mw (eaDpIndY d))) ∧
  (∀ d : Byte, P (.cmpDpInd d) [0xD2, d] (memOperand State.mw (eaDpInd d))) ∧
  (∀ n : Byte, P (.cmpSrIndY n) [0xD3, n] (memOperand State.mw (eaSrIndY n))) ∧
  (∀ d : Byte, P (.cmpDpX d) [0xD5, d] (memOperand State.mw (eaDpX d))) ∧
  (∀ d : Byte, P (.cmpDpIndLY d) [0xD7, d] (memOperand State.mw (eaDpIndLY 0xD7 d))) ∧
  (∀ a : Word, P (.cmpAbsY a) [0xD9, lo a, hi a] (memOperand State.mw (eaAbsY a))) ∧
  (∀ a : Word, P (.cmpAbsX a) [0xDD, lo a, hi a] (memOperand State.mw (eaAbsX a))) ∧
  (∀ al : Addr, P (.cmpAbsLX al) [0xDF, lo (offOf al), hi (offOf al), bankOf al] (memOperand State.mw (eaAbsLX al)))

/-- The forms of AND (R300). -/
def formsAND (P : Instr → List Byte → (State → Word × State) → Prop) : Prop :=
  (∀ d : Byte, P (.andDpIndX d) [0x21, d] (memOperand State.mw (eaDpIndX d))) ∧
  (∀ n : Byte, P (.andSr n) [0x23, n] (memOperand State.mw (eaSr n))) ∧
  (∀ d : Byte, P (.andDp d) [0x25, d] (memOperand State.mw (eaDp d))) ∧
  (∀ d : Byte, P (.andDpIndL d) [0x27, d] (memOperand State.mw (eaDpIndL 0x27 d))) ∧
  (∀ v : Imm, P (.andImm v) (0x29 :: v.bytes) (immOperand State.mw v)) ∧
  (∀ a : Word, P (.andAbs a) [0x2D, lo a, hi a] (memOperand State.mw (eaAbs a))) ∧
  (∀ al : Addr, P (.andAbsL al) [0x2F, lo (offOf al), hi (offOf al), bankOf al] (memOperand State.mw (eaAbsL al))) ∧
  (∀ d : Byte, P (.andDpIndY d) [0x31, d] (memOperand State.mw (eaDpIndY d))) ∧
  (∀ d : Byte, P (.andDpInd d) [0x32, d] (memOperand State.mw (eaDpInd d))) ∧
  (∀ n : Byte, P (.andSrIndY n) [0x33, n] (memOperand State.mw (eaSrIndY n))) ∧
  (∀ d : Byte, P (.andDpX d) [0x35, d] (memOperand State.mw (eaDpX d))) ∧
  (∀ d : Byte, P (.andDpIndLY d) [0x37, d] (memOperand State.mw (eaDpIndLY 0x37 d))) ∧
  (∀ a : Word, P (.andAbsY a) [0x39, lo a, hi a] (memOperand State.mw (eaAbsY a))) ∧
  (∀ a : Word, P (.andAbsX a) [0x3D, lo a, hi a] (memOperand State.mw (eaAbsX a))) ∧
  (∀ al : Addr, P (.andAbsLX al) [0x3F, lo (offOf al), hi (offOf al), bankOf al] (memOperand State.mw (eaAbsLX al)))

/-- The forms of ORA (R301). -/
def formsORA (P : Instr → List Byte → (State → Word × State) → Prop) : Prop :=
  (∀ d : Byte, P (.oraDpIndX d) [0x01, d] (memOperand State.mw (eaDpIndX d))) ∧
  (∀ n : Byte, P (.oraSr n) [0x03, n] (memOperand State.mw (eaSr n))) ∧
  (∀ d : Byte, P (.oraDp d) [0x05, d] (memOperand State.mw (eaDp d))) ∧
  (∀ d : Byte, P (.oraDpIndL d) [0x07, d] (memOperand State.mw (eaDpIndL 0x07 d))) ∧
  (∀ v : Imm, P (.oraImm v) (0x09 :: v.bytes) (immOperand State.mw v)) ∧
  (∀ a : Word, P (.oraAbs a) [0x0D, lo a, hi a] (memOperand State.mw (eaAbs a))) ∧
  (∀ al : Addr, P (.oraAbsL al) [0x0F, lo (offOf al), hi (offOf al), bankOf al] (memOperand State.mw (eaAbsL al))) ∧
  (∀ d : Byte, P (.oraDpIndY d) [0x11, d] (memOperand State.mw (eaDpIndY d))) ∧
  (∀ d : Byte, P (.oraDpInd d) [0x12, d] (memOperand State.mw (eaDpInd d))) ∧
  (∀ n : Byte, P (.oraSrIndY n) [0x13, n] (memOperand State.mw (eaSrIndY n))) ∧
  (∀ d : Byte, P (.oraDpX d) [0x15, d] (memOperand State.mw (eaDpX d))) ∧
  (∀ d : Byte, P (.oraDpIndLY d) [0x17, d] (memOperand State.mw (eaDpIndLY 0x17 d))) ∧
  (∀ a : Word, P (.oraAbsY a) [0x19, lo a, hi a] (memOperand State.mw (eaAbsY a))) ∧
  (∀ a : Word, P (.oraAbsX a) [0x1D, lo a, hi a] (memOperand State.mw (eaAbsX a))) ∧
  (∀ al : Addr, P (.oraAbsLX al) [0x1F, lo (offOf al), hi (offOf al), bankOf al] (memOperand State.mw (eaAbsLX al)))

/-- The forms of EOR (R302). -/
def formsEOR (P : Instr → List Byte → (State → Word × State) → Prop) : Prop :=
  (∀ d : Byte, P (.eorDpIndX d) [0x41, d] (memOperand State.mw (eaDpIndX d))) ∧
  (∀ n : Byte, P (.eorSr n) [0x43, n] (memOperand State.mw (eaSr n))) ∧
  (∀ d : Byte, P (.eorDp d) [0x45, d] (memOperand State.mw (eaDp d))) ∧
  (∀ d : Byte, P (.eorDpIndL d) [0x47, d] (memOperand State.mw (eaDpIndL 0x47 d))) ∧
  (∀ v : Imm, P (.eorImm v) (0x49 :: v.bytes) (immOperand State.mw v)) ∧
  (∀ a : Word, P (.eorAbs a) [0x4D, lo a, hi a] (memOperand State.mw (eaAbs a))) ∧
  (∀ al : Addr, P (.eorAbsL al) [0x4F, lo (offOf al), hi (offOf al), bankOf al] (memOperand State.mw (eaAbsL al))) ∧
  (∀ d : Byte, P (.eorDpIndY d) [0x51, d] (memOperand State.mw (eaDpIndY d))) ∧
  (∀ d : Byte, P (.eorDpInd d) [0x52, d] (memOperand State.mw (eaDpInd d))) ∧
  (∀ n : Byte, P (.eorSrIndY n) [0x53, n] (memOperand State.mw (eaSrIndY n))) ∧
  (∀ d : Byte, P (.eorDpX d) [0x55, d] (memOperand State.mw (eaDpX d))) ∧
  (∀ d : Byte, P (.eorDpIndLY d) [0x57, d] (memOperand State.mw (eaDpIndLY 0x57 d))) ∧
  (∀ a : Word, P (.eorAbsY a) [0x59, lo a, hi a] (memOperand State.mw (eaAbsY a))) ∧
  (∀ a : Word, P (.eorAbsX a) [0x5D, lo a, hi a] (memOperand State.mw (eaAbsX a))) ∧
  (∀ al : Addr, P (.eorAbsLX al) [0x5F, lo (offOf al), hi (offOf al), bankOf al] (memOperand State.mw (eaAbsLX al)))

/-- The forms of BIT with a memory operand (R303). -/
def formsBIT (P : Instr → List Byte → (State → Word × State) → Prop) : Prop :=
  (∀ d : Byte, P (.bitDp d) [0x24, d] (memOperand State.mw (eaDp d))) ∧
  (∀ a : Word, P (.bitAbs a) [0x2C, lo a, hi a] (memOperand State.mw (eaAbs a))) ∧
  (∀ d : Byte, P (.bitDpX d) [0x34, d] (memOperand State.mw (eaDpX d))) ∧
  (∀ a : Word, P (.bitAbsX a) [0x3C, lo a, hi a] (memOperand State.mw (eaAbsX a)))

/-- The forms of LDX (R201). -/
def formsLDX (P : Instr → List Byte → (State → Word × State) → Prop) : Prop :=
  (∀ v : Imm, P (.ldxImm v) (0xA2 :: v.bytes) (immOperand State.xw v)) ∧
  (∀ d : Byte, P (.ldxDp d) [0xA6, d] (memOperand State.xw (eaDp d))) ∧
  (∀ a : Word, P (.ldxAbs a) [0xAE, lo a, hi a] (memOperand State.xw (eaAbs a))) ∧
  (∀ d : Byte, P (.ldxDpY d) [0xB6, d] (memOperand State.xw (eaDpY d))) ∧
  (∀ a : Word, P (.ldxAbsY a) [0xBE, lo a, hi a] (memOperand State.xw (eaAbsY a)))

/-- The forms of LDY (R202). -/
def formsLDY (P : Instr → List Byte → (State → Word × State) → Prop) : Prop :=
  (∀ v : Imm, P (.ldyImm v) (0xA0 :: v.bytes) (immOperand State.xw v)) ∧
  (∀ d : Byte, P (.ldyDp d) [0xA4, d] (memOperand State.xw (eaDp d))) ∧
  (∀ a : Word, P (.ldyAbs a) [0xAC, lo a, hi a] (memOperand State.xw (eaAbs a))) ∧
  (∀ d : Byte, P (.ldyDpX d) [0xB4, d] (memOperand State.xw (eaDpX d))) ∧
  (∀ a : Word, P (.ldyAbsX a) [0xBC, lo a, hi a] (memOperand State.xw (eaAbsX a)))

/-- The forms of CPX (R273). -/
def formsCPX (P : Instr → List Byte → (State → Word × State) → Prop) : Prop :=
  (∀ v : Imm, P (.cpxImm v) (0xE0 :: v.bytes) (immOperand State.xw v)) ∧
  (∀ d : Byte, P (.cpxDp d) [0xE4, d] (memOperand State.xw (eaDp d))) ∧
  (∀ a : Word, P (.cpxAbs a) [0xEC, lo a, hi a] (memOperand State.xw (eaAbs a)))

/-- The forms of CPY (R274). -/
def formsCPY (P : Instr → List Byte → (State → Word × State) → Prop) : Prop :=
  (∀ v : Imm, P (.cpyImm v) (0xC0 :: v.bytes) (immOperand State.xw v)) ∧
  (∀ d : Byte, P (.cpyDp d) [0xC4, d] (memOperand State.xw (eaDp d))) ∧
  (∀ a : Word, P (.cpyAbs a) [0xCC, lo a, hi a] (memOperand State.xw (eaAbs a)))

/-- The forms of STA (R203). -/
def formsSTA (P : Instr → List Byte → (State → EA × State) → Prop) : Prop :=
  (∀ d : Byte, P (.staDpIndX d) [0x81, d] (eaDpIndX d)) ∧
  (∀ n : Byte, P (.staSr n) [0x83, n] (eaSr n)) ∧
  (∀ d : Byte, P (.staDp d) [0x85, d] (eaDp d)) ∧
  (∀ d : Byte, P (.staDpIndL d) [0x87, d] (eaDpIndL 0x87 d)) ∧
  (∀ a : Word, P (.staAbs a) [0x8D, lo a, hi a] (eaAbs a)) ∧
  (∀ al : Addr, P (.staAbsL al) [0x8F, lo (offOf al), hi (offOf al), bankOf al] (eaAbsL al)) ∧
  (∀ d : Byte, P (.staDpIndY d) [0x91, d] (eaDpIndY d)) ∧
  (∀ d : Byte, P (.staDpInd d) [0x92, d] (eaDpInd d)) ∧
  (∀ n : Byte, P (.staSrIndY n) [0x93, n] (eaSrIndY n)) ∧
  (∀ d : Byte, P (.staDpX d) [0x95, d] (eaDpX d)) ∧
  (∀ d : Byte, P (.staDpIndLY d) [0x97, d] (eaDpIndLY 0x97 d)) ∧
  (∀ a : Word, P (.staAbsY a) [0x99, lo a, hi a] (eaAbsY a)) ∧
  (∀ a : Word, P (.staAbsX a) [0x9D, lo a, hi a] (eaAbsX a)) ∧
  (∀ al : Addr, P (.staAbsLX al) [0x9F, lo (offOf al), hi (offOf al), bankOf al] (eaAbsLX al))

/-- The forms of STX (R204). -/
def formsSTX (P : Instr → List Byte → (State → EA × State) → Prop) : Prop :=
  (∀ d : Byte, P (.stxDp d) [0x86, d] (eaDp d)) ∧
  (∀ a : Word, P (.stxAbs a) [0x8E, lo a, hi a] (eaAbs a)) ∧
  (∀ d : Byte, P (.stxDpY d) [0x96, d] (eaDpY d))

/-- The forms of STY (R205). -/
def formsSTY (P : Instr → List Byte → (State → EA × State) → Prop) : Prop :=
  (∀ d : Byte, P (.styDp d) [0x84, d] (eaDp d)) ∧
  (∀ a : Word, P (.styAbs a) [0x8C, lo a, hi a] (eaAbs a)) ∧
  (∀ d : Byte, P (.styDpX d) [0x94, d] (eaDpX d))

/-- The forms of STZ (R206). -/
def formsSTZ (P : Instr → List Byte → (State → EA × State) → Prop) : Prop :=
  (∀ d : Byte, P (.stzDp d) [0x64, d] (eaDp d)) ∧
  (∀ d : Byte, P (.stzDpX d) [0x74, d] (eaDpX d)) ∧
  (∀ a : Word, P (.stzAbs a) [0x9C, lo a, hi a] (eaAbs a)) ∧
  (∀ a : Word, P (.stzAbsX a) [0x9E, lo a, hi a] (eaAbsX a))

/-- The memory forms of INC (R275). -/
def formsINC (P : Instr → List Byte → (State → EA × State) → Prop) : Prop :=
  (∀ d : Byte, P (.incDp d) [0xE6, d] (eaDp d)) ∧
  (∀ a : Word, P (.incAbs a) [0xEE, lo a, hi a] (eaAbs a)) ∧
  (∀ d : Byte, P (.incDpX d) [0xF6, d] (eaDpX d)) ∧
  (∀ a : Word, P (.incAbsX a) [0xFE, lo a, hi a] (eaAbsX a))

/-- The memory forms of DEC (R278). -/
def formsDEC (P : Instr → List Byte → (State → EA × State) → Prop) : Prop :=
  (∀ d : Byte, P (.decDp d) [0xC6, d] (eaDp d)) ∧
  (∀ a : Word, P (.decAbs a) [0xCE, lo a, hi a] (eaAbs a)) ∧
  (∀ d : Byte, P (.decDpX d) [0xD6, d] (eaDpX d)) ∧
  (∀ a : Word, P (.decAbsX a) [0xDE, lo a, hi a] (eaAbsX a))

/-- The forms of TSB (R304). -/
def formsTSB (P : Instr → List Byte → (State → EA × State) → Prop) : Prop :=
  (∀ d : Byte, P (.tsbDp d) [0x04, d] (eaDp d)) ∧
  (∀ a : Word, P (.tsbAbs a) [0x0C, lo a, hi a] (eaAbs a))

/-- The forms of TRB (R305). -/
def formsTRB (P : Instr → List Byte → (State → EA × State) → Prop) : Prop :=
  (∀ d : Byte, P (.trbDp d) [0x14, d] (eaDp d)) ∧
  (∀ a : Word, P (.trbAbs a) [0x1C, lo a, hi a] (eaAbs a))

/-- The memory forms of ASL (R306). -/
def formsASL (P : Instr → List Byte → (State → EA × State) → Prop) : Prop :=
  (∀ d : Byte, P (.aslDp d) [0x06, d] (eaDp d)) ∧
  (∀ a : Word, P (.aslAbs a) [0x0E, lo a, hi a] (eaAbs a)) ∧
  (∀ d : Byte, P (.aslDpX d) [0x16, d] (eaDpX d)) ∧
  (∀ a : Word, P (.aslAbsX a) [0x1E, lo a, hi a] (eaAbsX a))

/-- The memory forms of LSR (R307). -/
def formsLSR (P : Instr → List Byte → (State → EA × State) → Prop) : Prop :=
  (∀ d : Byte, P (.lsrDp d) [0x46, d] (eaDp d)) ∧
  (∀ a : Word, P (.lsrAbs a) [0x4E, lo a, hi a] (eaAbs a)) ∧
  (∀ d : Byte, P (.lsrDpX d) [0x56, d] (eaDpX d)) ∧
  (∀ a : Word, P (.lsrAbsX a) [0x5E, lo a, hi a] (eaAbsX a))

/-- The memory forms of ROL (R308). -/
def formsROL (P : Instr → List Byte → (State → EA × State) → Prop) : Prop :=
  (∀ d : Byte, P (.rolDp d) [0x26, d] (eaDp d)) ∧
  (∀ a : Word, P (.rolAbs a) [0x2E, lo a, hi a] (eaAbs a)) ∧
  (∀ d : Byte, P (.rolDpX d) [0x36, d] (eaDpX d)) ∧
  (∀ a : Word, P (.rolAbsX a) [0x3E, lo a, hi a] (eaAbsX a))

/-- The memory forms of ROR (R309). -/
def formsROR (P : Instr → List Byte → (State → EA × State) → Prop) : Prop :=
  (∀ d : Byte, P (.rorDp d) [0x66, d] (eaDp d)) ∧
  (∀ a : Word, P (.rorAbs a) [0x6E, lo a, hi a] (eaAbs a)) ∧
  (∀ d : Byte, P (.rorDpX d) [0x76, d] (eaDpX d)) ∧
  (∀ a : Word, P (.rorAbsX a) [0x7E, lo a, hi a] (eaAbsX a))

end Sys2Proof.Claim

open Sys2Proof Sys2Proof.Machine Sys2Proof.Claim

/-! Decoding and encoding. -/

/-- Words written out from the encodings of the opcode table (R122, R123, R126) decode to the instructions they stand for. -/
def Obligations.TableWordsDecode : Prop :=
  decode ⟨false, false⟩ [0xA9, 0x34, 0x12] = .ok (.ldaImm (.b16 0x1234), []) ∧
  decode ⟨true, true⟩ [0xA9, 0x34, 0x12] = .ok (.ldaImm (.b8 0x34), [0x12]) ∧
  decode ⟨true, false⟩ [0xA2, 0xFF, 0x1F] = .ok (.ldxImm (.b16 0x1FFF), []) ∧
  decode ⟨true, true⟩ [0x54, 0x00, 0x7E] = .ok (.mvn 0x00 0x7E, []) ∧
  decode ⟨true, true⟩ [0xD0, 0xF8] = .ok (.bne 0xF8, []) ∧
  decode ⟨true, true⟩ [0x5C, 0x56, 0x34, 0x12] = .ok (.jmlAbsL 0x123456, []) ∧
  decode ⟨true, true⟩ [0x22, 0x00, 0x90, 0x7E] = .ok (.jsl 0x7E9000, []) ∧
  decode ⟨true, true⟩ [0x8D, 0x00, 0x20] = .ok (.staAbs 0x2000, []) ∧
  decode ⟨true, true⟩ [0x06, 0x10] = .ok (.aslDp 0x10, []) ∧
  decode ⟨true, true⟩ [0xC2, 0x30] = .ok (.rep 0x30, []) ∧
  decode ⟨true, true⟩ [0xF4, 0x34, 0x12] = .ok (.pea 0x1234, []) ∧
  decode ⟨true, true⟩ [0x00, 0xEE] = .ok (.brk 0xEE, []) ∧
  decode ⟨true, true⟩ [0xAA] = .ok (.tax, [])

/-- Decoding what the encoder writes gives the instruction back, whatever follows it. -/
def Obligations.DecodeOfEncodeIsTheInstruction : Prop :=
  ∀ (w : Widths) (i : Instr) (rest : List Byte), i.wf w = true → decode w (encode i ++ rest) = .ok (i, rest)

/-- What the decoder reads is well formed, and its encoding is the bytes it was read from. -/
def Obligations.EncodeOfDecodeIsTheBytes : Prop :=
  ∀ (w : Widths) (bs rest : List Byte) (i : Instr), decode w bs = .ok (i, rest) → i.wf w = true ∧ bs = encode i ++ rest

/-- Every opcode byte begins an instruction, whatever three bytes follow it; none is refused (R128). -/
def Obligations.EveryOpcodeByteIsAnInstruction : Prop :=
  ∀ (w : Widths) (op b1 b2 b3 : Byte) (rest : List Byte),
    ∃ i r, decode w (op :: b1 :: b2 :: b3 :: rest) = .ok (i, r) ∧ (encode i).head? = some op

/-- The immediates of R124 are one byte when their flag is set and two when it is clear; an instruction has one to four bytes. -/
def Obligations.ImmediateLengthFollowsTheWidthFlag : Prop :=
  (∀ (w : Widths) (i : Instr), i.wf w = true → 1 ≤ i.length ∧ i.length ≤ 4) ∧
  (∀ (w : Widths) (op b1 b2 : Byte) (rest : List Byte), op ∈ ([0xA9, 0x69, 0xE9, 0x29, 0x09, 0x49, 0xC9, 0x89] : List Byte) →
    ∃ i, decode w (op :: b1 :: b2 :: rest) = .ok (i, if w.m then b2 :: rest else rest) ∧
      i.length = if w.m then 2 else 3) ∧
  (∀ (w : Widths) (op b1 b2 : Byte) (rest : List Byte), op ∈ ([0xA2, 0xA0, 0xE0, 0xC0] : List Byte) →
    ∃ i, decode w (op :: b1 :: b2 :: rest) = .ok (i, if w.x then b2 :: rest else rest) ∧
      i.length = if w.x then 2 else 3)

/-! Memory and the bus. -/

/-- A byte written to memory reads back, every other byte is left alone, and the canonical form is kept. -/
def Obligations.MemoryReadsBackTheByteWritten : Prop :=
  ∀ (m : Memory) (a c : Addr) (v : Byte), m.wf = true →
    (m.write a.toNat v).wf = true ∧ (m.write a.toNat v).read c.toNat = if c = a then v else m.read c.toNat

/-- The bus port (R82): RAM reads back the last byte written, ROM reads its image, any other address answers a free value and
moves the bus on. Log entry 3 (DEDUCED): a write to ROM leaves memory as it is, and so does every read, also an oracle's,
whose state R82 lets a read change, since R99 names the only other agents that change memory. -/
def Obligations.BusPortServesRamRomAndOracle : Prop :=
  ∀ (b : Bus) (a : Addr) (v : Byte), b.mem.wf = true →
    (b.kindAt a = .ram → ((b.write8 a v).read8 a).1 = v) ∧
    (b.kindAt a = .rom → (b.write8 a v).mem = b.mem ∧ (b.read8 a).1 = b.mem.read a.toNat) ∧
    (b.kindAt a = .device → (b.read8 a).1 = Config.deviceRead b.devices a ∧
      (b.read8 a).2.devices = Config.deviceAfterRead b.devices a) ∧
    (b.read8 a).2.mem = b.mem ∧ (b.write8 a v).mem.wf = true

/-- The address steps of R84 and the page wrap of R151, as numbers. -/
def Obligations.AddressStepsWrapAsStated : Prop :=
  ∀ a : Addr,
    (AddrStep.long.next a).toNat = (a.toNat + 1) % 16777216 ∧
    (AddrStep.bank.next a).toNat = a.toNat / 65536 * 65536 + (a.toNat % 65536 + 1) % 65536 ∧
    (AddrStep.page.next a).toNat = a.toNat / 256 * 256 + (a.toNat % 256 + 1) % 256

/-- The order of the accesses of a 16-bit operand: reads and stores take the low byte first (R84, R85), the write-back of
a read-modify-write the high byte first (R86). The log is newest first. -/
def Obligations.SixteenBitAccessesKeepTheirOrder : Prop :=
  ∀ (b : Bus) (st : AddrStep) (a : Addr) (v : Word),
    (∃ l h, b.readW .w16 st a = (pair h l, (b.readW .w16 st a).2) ∧
      (b.readW .w16 st a).2.log = .read (st.next a) h :: .read a l :: b.log) ∧
    (b.writeW .w16 st a v).log = .write (st.next a) (hi v) :: .write a (lo v) :: b.log ∧
    (b.writeRmw .w16 st a v).log = .write a (lo v) :: .write (st.next a) (hi v) :: b.log

/-! Addressing modes. -/

/-- The direct-page address and its step (R151): in emulation mode with a page-aligned D both wrap within the page,
otherwise within bank 0, and the address is in bank 0 in every case. -/
def Obligations.DirectPageAddressWraps : Prop :=
  ∀ (s : State) (d : Byte) (idx : Word) (p : Addr),
    (s.e = true ∧ lo s.d = 0x00 →
      (dpAddr s d idx).toNat = s.d.toNat / 256 * 256 + (d.toNat + idx.toNat) % 256 ∧
      ((dpStep s).next p).toNat = p.toNat / 256 * 256 + (p.toNat % 256 + 1) % 256) ∧
    (¬ (s.e = true ∧ lo s.d = 0x00) →
      (dpAddr s d idx).toNat = (s.d.toNat + d.toNat + idx.toNat) % 65536 ∧
      ((dpStep s).next p).toNat = p.toNat / 65536 * 65536 + (p.toNat % 65536 + 1) % 65536) ∧
    (dpAddr s d idx).toNat < 65536

/-- The modes that read no pointer (R161 to R163, R169 to R174): the address, the step, and no bus access. -/
def Obligations.DirectAbsoluteAndStackModes : Prop :=
  ∀ (s : State) (d : Byte) (a : Word) (al : Addr),
    eaDp d s = (⟨dpAddr s d 0, dpStep s⟩, s) ∧
    eaDpX d s = (⟨dpAddr s d s.x, dpStep s⟩, s) ∧
    eaDpY d s = (⟨dpAddr s d s.y, dpStep s⟩, s) ∧
    (∃ ea, eaAbs a s = (ea, s) ∧ ea.step = .long ∧ ea.addr.toNat = s.db.toNat * 65536 + a.toNat) ∧
    (∃ ea, eaAbsX a s = (ea, s) ∧ ea.step = .long ∧
      ea.addr.toNat = (s.db.toNat * 65536 + a.toNat + s.x.toNat) % 16777216) ∧
    (∃ ea, eaAbsY a s = (ea, s) ∧ ea.step = .long ∧
      ea.addr.toNat = (s.db.toNat * 65536 + a.toNat + s.y.toNat) % 16777216) ∧
    eaAbsL al s = (⟨al, .long⟩, s) ∧
    (∃ ea, eaAbsLX al s = (ea, s) ∧ ea.step = .long ∧ ea.addr.toNat = (al.toNat + s.x.toNat) % 16777216) ∧
    (∃ ea, eaSr d s = (ea, s) ∧ ea.step = .bank ∧ ea.addr.toNat = (s.sp.toNat + d.toNat) % 65536)

/-- The modes that read a pointer (R164 to R168, R175), where the pointer's bytes are RAM or ROM: the address is the
pointer's value in bank DB, or the long pointer, indexed modulo 2^24; memory stays. The bytes of a pointer read by an opcode
in `EMU_LINEAR_DP_OPS` follow each other within the bank, those of any other opcode by the step of R151 (R152). -/
def Obligations.IndirectModesFollowTheirPointer : Prop :=
  ∀ (s : State) (d op : Byte),
    (op ∈ s.params.linearDpOps → ptrStep op s = .bank) ∧
    (op ∉ s.params.linearDpOps → ptrStep op s = dpStep s) ∧
    (∀ idx : Word, s.backed (dpAddr s d idx) = true → s.backed ((dpStep s).next (dpAddr s d idx)) = true →
      let ptr := (s.peek ((dpStep s).next (dpAddr s d idx))).toNat * 256 + (s.peek (dpAddr s d idx)).toNat
      (idx = 0 → (eaDpInd d s).1.step = .long ∧ (eaDpInd d s).1.addr.toNat = s.db.toNat * 65536 + ptr ∧
        SameMemory s (eaDpInd d s).2) ∧
      (idx = s.x → (eaDpIndX d s).1.step = .long ∧ (eaDpIndX d s).1.addr.toNat = s.db.toNat * 65536 + ptr ∧
        SameMemory s (eaDpIndX d s).2) ∧
      (idx = 0 → (eaDpIndY d s).1.step = .long ∧
        (eaDpIndY d s).1.addr.toNat = (s.db.toNat * 65536 + ptr + s.y.toNat) % 16777216 ∧
        SameMemory s (eaDpIndY d s).2)) ∧
    (let p0 := bank0 (s.d + zext16 d)
     let p1 := (ptrStep op s).next p0
     let p2 := (ptrStep op s).next p1
     s.backed p0 = true → s.backed p1 = true → s.backed p2 = true →
      let ptr := (s.peek p2).toNat * 65536 + (s.peek p1).toNat * 256 + (s.peek p0).toNat
      (eaDpIndL op d s).1.step = .long ∧ (eaDpIndL op d s).1.addr.toNat = ptr ∧ SameMemory s (eaDpIndL op d s).2 ∧
      (eaDpIndLY op d s).1.step = .long ∧ (eaDpIndLY op d s).1.addr.toNat = (ptr + s.y.toNat) % 16777216 ∧
      SameMemory s (eaDpIndLY op d s).2) ∧
    (let p0 := bank0 (s.sp + zext16 d)
     let p1 := bank0 (s.sp + zext16 d + 1)
     s.backed p0 = true → s.backed p1 = true →
      (eaSrIndY d s).1.step = .long ∧
      (eaSrIndY d s).1.addr.toNat =
        (s.db.toNat * 65536 + (s.peek p1).toNat * 256 + (s.peek p0).toNat + s.y.toNat) % 16777216 ∧
      SameMemory s (eaSrIndY d s).2)

/-- The operand of an instruction. The width is 8 bits when its flag is 1 and 16 when it is 0 (R44). In memory, the mode
gives the address and the state after the pointer reads, and there the operand is read; at an address in RAM or ROM it is the
little-endian value of its bytes (R83, R84). An immediate of the selected width is its own value, and reads nothing (R160).
The last clause adds immediates of the other width, which no decoder output contains: they are cut or zero-extended (log
entry 12, DESIGN CHOICE). -/
def Obligations.OperandIsTheLittleEndianValue : Prop :=
  ∀ (s : State) (ea : EA),
    (widthOf true = .w8 ∧ widthOf false = .w16 ∧ s.mw = widthOf s.p.m ∧ s.xw = widthOf s.p.x) ∧
    (s.backed ea.addr = true →
      (memRead .w8 ea s).1 = zext16 (s.peek ea.addr) ∧
      (s.backed (ea.step.next ea.addr) = true →
        (memRead .w16 ea s).1 = pair (s.peek (ea.step.next ea.addr)) (s.peek ea.addr))) ∧
    SameMemory s (memRead .w8 ea s).2 ∧ SameMemory s (memRead .w16 ea s).2 ∧
    (∀ (w : State → Width) (mode : State → EA × State),
      memOperand w mode s = memRead (w s) (mode s).1 (mode s).2) ∧
    (∀ (w : State → Width) (b : Byte) (v : Word),
      (w s = .w8 → immOperand w (.b8 b) s = (zext16 b, s)) ∧ (w s = .w16 → immOperand w (.b16 v) s = (v, s))) ∧
    (∀ (w : State → Width) (v : Imm), immOperand w v s = (if w s = .w8 then zext16 (lo v.value) else v.value, s))

/-! Loads and stores. -/

/-- LDA (R200): all fifteen forms complete with the operand in the accumulator and its n and z; nothing else changes but
the bus log of the reads. -/
def Obligations.LdaLoadsTheAccumulator : Prop :=
  ∀ s : State, formsLDA fun i bs operand =>
    encode i = bs ∧
    ∃ t, exec i s = .next t ∧
      t = { s with
            c := accResult s.p.m s.c (operand s).1, p := nzFrom s.p.m (operand s).1 s.p, bus := (operand s).2.bus } ∧
      SameMemory s t

/-- LDX and LDY (R201, R202): all ten forms complete with the operand in the index register and its n and z. -/
def Obligations.LdxLdyLoadTheIndexRegister : Prop :=
  ∀ s : State,
    (formsLDX fun i bs operand =>
      encode i = bs ∧
      ∃ t, exec i s = .next t ∧
        t = { s with
              x := indexResult s.p.x (operand s).1, p := nzFrom s.p.x (operand s).1 s.p, bus := (operand s).2.bus } ∧
        SameMemory s t) ∧
    (formsLDY fun i bs operand =>
      encode i = bs ∧
      ∃ t, exec i s = .next t ∧
        t = { s with
              y := indexResult s.p.x (operand s).1, p := nzFrom s.p.x (operand s).1 s.p, bus := (operand s).2.bus } ∧
        SameMemory s t)

/-- STA (R203): all fourteen forms complete; the bus alone changes, by a store of A or C at the mode's address, low byte
first; every byte outside the stored ones reads as before. -/
def Obligations.StaStoresTheAccumulator : Prop :=
  ∀ s : State, formsSTA fun i bs ea =>
    encode i = bs ∧
    ∃ t, exec i s = .next t ∧
      t = { s with bus := (ea s).2.bus.writeW (widthOf s.p.m) (ea s).1.step (ea s).1.addr s.c } ∧
      Stored (widthOf s.p.m) (ea s).1 s.c s t

/-- STX, STY and STZ (R204 to R206): all ten forms complete; the bus alone changes, by a store of X, Y or zero. -/
def Obligations.StxStyStzStoreTheirValue : Prop :=
  ∀ s : State,
    (formsSTX fun i bs ea =>
      encode i = bs ∧
      ∃ t, exec i s = .next t ∧
        t = { s with bus := (ea s).2.bus.writeW (widthOf s.p.x) (ea s).1.step (ea s).1.addr s.x } ∧
        Stored (widthOf s.p.x) (ea s).1 s.x s t) ∧
    (formsSTY fun i bs ea =>
      encode i = bs ∧
      ∃ t, exec i s = .next t ∧
        t = { s with bus := (ea s).2.bus.writeW (widthOf s.p.x) (ea s).1.step (ea s).1.addr s.y } ∧
        Stored (widthOf s.p.x) (ea s).1 s.y s t) ∧
    (formsSTZ fun i bs ea =>
      encode i = bs ∧
      ∃ t, exec i s = .next t ∧
        t = { s with bus := (ea s).2.bus.writeW (widthOf s.p.m) (ea s).1.step (ea s).1.addr 0x0000 } ∧
        Stored (widthOf s.p.m) (ea s).1 0x0000 s t)

/-! Arithmetic and logic. -/

/-- ADC (R270): all fifteen forms complete with the sum of R283 in the accumulator and n, v, z, c from it; v is that of R283 in
decimal mode too, where R47 differs (log entry 17, DEDUCED). -/
def Obligations.AdcAddsToTheAccumulator : Prop :=
  ∀ s : State, formsADC fun i bs operand =>
    encode i = bs ∧
    let o := addCore (widthOf s.p.m) s.c (operand s).1 s.p.c s.p.d
    ∃ t, exec i s = .next t ∧
      t = { s with
            c := accResult s.p.m s.c o.value
            p := nzFrom s.p.m o.value { s.p with c := o.carry, v := o.overflow }
            bus := (operand s).2.bus } ∧
      SameMemory s t

/-- SBC (R271): all fifteen forms complete with the difference of R284 in the accumulator and n, v, z, c from it; v is that of
R284 in decimal mode too (log entry 17, DEDUCED). -/
def Obligations.SbcSubtractsFromTheAccumulator : Prop :=
  ∀ s : State, formsSBC fun i bs operand =>
    encode i = bs ∧
    let o := subCore (widthOf s.p.m) s.c (operand s).1 s.p.c s.p.d
    ∃ t, exec i s = .next t ∧
      t = { s with
            c := accResult s.p.m s.c o.value
            p := nzFrom s.p.m o.value { s.p with c := o.carry, v := o.overflow }
            bus := (operand s).2.bus } ∧
      SameMemory s t

/-- In binary mode the adder and the subtractor are addition and subtraction modulo 2^w, with the unsigned carry or
not-borrow and the signed overflow (R283, R284, R290). -/
def Obligations.BinaryCoresAreModularArithmetic : Prop :=
  ∀ (w : Width) (a b : Word) (cin : Bool),
    (let o := addCore w a b cin false
     let r := natAt w a + natAt w b + cin.toNat
     o.value.toNat = r % 2 ^ w.bits ∧ (o.carry = true ↔ 2 ^ w.bits ≤ r) ∧
     (o.overflow = true ↔
       (intAt w a + intAt w b + cin.toNat < -(2 : Int) ^ (w.bits - 1) ∨
        (2 : Int) ^ (w.bits - 1) ≤ intAt w a + intAt w b + cin.toNat))) ∧
    (let o := subCore w a b cin false
     let borrow := (!cin).toNat
     o.value.toNat = (natAt w a + 2 ^ w.bits - natAt w b + 2 ^ w.bits - borrow) % 2 ^ w.bits ∧
     (o.carry = true ↔ natAt w b + borrow ≤ natAt w a) ∧
     (o.overflow = true ↔
       (intAt w a - intAt w b - borrow < -(2 : Int) ^ (w.bits - 1) ∨
        (2 : Int) ^ (w.bits - 1) ≤ intAt w a - intAt w b - borrow)))

/-- In decimal mode, on valid BCD operands of either width, the adder gives the BCD sum modulo 10^(w/4) and the decimal
carry (R283). -/
def Obligations.DecimalAddIsBcdAddition : Prop :=
  ∀ (w : Width) (a b : Word) (cin : Bool),
    let k := w.bits / 4
    bcdValid k (natAt w a) = true → bcdValid k (natAt w b) = true →
      let o := addCore w a b cin true
      let r := bcdValue k (natAt w a) + bcdValue k (natAt w b) + cin.toNat
      bcdValid k o.value.toNat = true ∧ o.value.toNat < 2 ^ w.bits ∧
      bcdValue k o.value.toNat = r % 10 ^ k ∧ (o.carry = true ↔ 10 ^ k ≤ r)

/-- In decimal mode, on valid BCD operands of either width, the subtractor gives the BCD difference modulo 10^(w/4), and
the carry says that no borrow occurred (R284). -/
def Obligations.DecimalSubtractIsBcdSubtraction : Prop :=
  ∀ (w : Width) (a b : Word) (cin : Bool),
    let k := w.bits / 4
    bcdValid k (natAt w a) = true → bcdValid k (natAt w b) = true →
      let o := subCore w a b cin true
      let borrow := (!cin).toNat
      bcdValid k o.value.toNat = true ∧ o.value.toNat < 2 ^ w.bits ∧
      bcdValue k o.value.toNat = (bcdValue k (natAt w a) + 10 ^ k - bcdValue k (natAt w b) + 10 ^ k - borrow) % 10 ^ k ∧
      (o.carry = true ↔ bcdValue k (natAt w b) + borrow ≤ bcdValue k (natAt w a))

/-- AND, ORA and EOR (R300 to R302): all forty-five forms complete with the bitwise result and its n and z. -/
def Obligations.AndOraEorCombineBits : Prop :=
  ∀ s : State,
    (formsAND fun i bs operand =>
      encode i = bs ∧
      ∃ t, exec i s = .next t ∧
        t = { s with
              c := accResult s.p.m s.c (s.c &&& (operand s).1), p := nzFrom s.p.m (s.c &&& (operand s).1) s.p
              bus := (operand s).2.bus } ∧ SameMemory s t) ∧
    (formsORA fun i bs operand =>
      encode i = bs ∧
      ∃ t, exec i s = .next t ∧
        t = { s with
              c := accResult s.p.m s.c (s.c ||| (operand s).1), p := nzFrom s.p.m (s.c ||| (operand s).1) s.p
              bus := (operand s).2.bus } ∧ SameMemory s t) ∧
    (formsEOR fun i bs operand =>
      encode i = bs ∧
      ∃ t, exec i s = .next t ∧
        t = { s with
              c := accResult s.p.m s.c (s.c ^^^ (operand s).1), p := nzFrom s.p.m (s.c ^^^ (operand s).1) s.p
              bus := (operand s).2.bus } ∧ SameMemory s t)

/-- CMP, CPX and CPY (R272 to R274): all twenty-one forms complete and change flags alone: n and z of the difference, c
when the register is not below the operand; v and d keep their values. -/
def Obligations.ComparesSetNZC : Prop :=
  ∀ s : State,
    (formsCMP fun i bs operand =>
      encode i = bs ∧
      ∃ t, exec i s = .next t ∧
        t = { s with
              p := nzFrom s.p.m (s.c - (operand s).1) { s.p with c := notBelow s.p.m s.c (operand s).1 }
              bus := (operand s).2.bus } ∧ SameMemory s t) ∧
    (formsCPX fun i bs operand =>
      encode i = bs ∧
      ∃ t, exec i s = .next t ∧
        t = { s with
              p := nzFrom s.p.x (s.x - (operand s).1) { s.p with c := notBelow s.p.x s.x (operand s).1 }
              bus := (operand s).2.bus } ∧ SameMemory s t) ∧
    (formsCPY fun i bs operand =>
      encode i = bs ∧
      ∃ t, exec i s = .next t ∧
        t = { s with
              p := nzFrom s.p.x (s.y - (operand s).1) { s.p with c := notBelow s.p.x s.y (operand s).1 }
              bus := (operand s).2.bus } ∧ SameMemory s t)

/-- BIT (R303): the memory forms set z from the AND and n and v from the operand's top two bits; the immediate form sets
z alone. Nothing else changes. -/
def Obligations.BitTestsBits : Prop :=
  ∀ s : State,
    (formsBIT fun i bs operand =>
      encode i = bs ∧
      ∃ t, exec i s = .next t ∧
        t = { s with
              p := { s.p with
                     z := isZero s.p.m (s.c &&& (operand s).1), n := topBit s.p.m (operand s).1
                     v := if s.p.m then (operand s).1.getLsbD 6 else (operand s).1.getLsbD 14 }
              bus := (operand s).2.bus } ∧ SameMemory s t) ∧
    (∀ v : Imm, encode (.bitImm v) = 0x89 :: v.bytes) ∧
    (∀ v : Imm, exec (.bitImm v) s = .next { s with p := { s.p with z := isZero s.p.m (s.c &&& v.value) } })

/-- INC, DEC, TSB and TRB (R275, R278, R304, R305): all fourteen forms complete. A memory operand is read, changed and
written back at its own address, high byte first; with m = 1 the accumulator forms keep B; only the flags of the rule
change. -/
def Obligations.IncDecTsbTrbModifyTheirOperand : Prop :=
  ∀ s : State,
    (formsINC fun i bs ea => encode i = bs ∧ ModifiesMemory i ea s fun v => counted s.p.m s.p (v + 1)) ∧
    (formsDEC fun i bs ea => encode i = bs ∧ ModifiesMemory i ea s fun v => counted s.p.m s.p (v - 1)) ∧
    (formsTSB fun i bs ea =>
      encode i = bs ∧ ModifiesMemory i ea s fun v => (v ||| s.c, { s.p with z := isZero s.p.m (s.c &&& v) })) ∧
    (formsTRB fun i bs ea =>
      encode i = bs ∧ ModifiesMemory i ea s fun v => (v &&& ~~~s.c, { s.p with z := isZero s.p.m (s.c &&& v) })) ∧
    (encode .incAcc = [0x1A] ∧ ModifiesAcc .incAcc s fun v => counted s.p.m s.p (v + 1)) ∧
    (encode .decAcc = [0x3A] ∧ ModifiesAcc .decAcc s fun v => counted s.p.m s.p (v - 1))

/-- ASL, LSR, ROL and ROR (R306 to R309): all twenty forms complete, and the bit shifted out goes to c. -/
def Obligations.ShiftsModifyTheirOperand : Prop :=
  ∀ s : State,
    (formsASL fun i bs ea => encode i = bs ∧ ModifiesMemory i ea s (shiftLeft s.p.m s.p)) ∧
    (formsLSR fun i bs ea => encode i = bs ∧ ModifiesMemory i ea s (shiftRight s.p.m s.p)) ∧
    (formsROL fun i bs ea => encode i = bs ∧ ModifiesMemory i ea s (rotateLeft s.p.m s.p)) ∧
    (formsROR fun i bs ea => encode i = bs ∧ ModifiesMemory i ea s (rotateRight s.p.m s.p)) ∧
    (encode .aslAcc = [0x0A] ∧ ModifiesAcc .aslAcc s (shiftLeft s.p.m s.p)) ∧
    (encode .lsrAcc = [0x4A] ∧ ModifiesAcc .lsrAcc s (shiftRight s.p.m s.p)) ∧
    (encode .rolAcc = [0x2A] ∧ ModifiesAcc .rolAcc s (rotateLeft s.p.m s.p)) ∧
    (encode .rorAcc = [0x6A] ∧ ModifiesAcc .rorAcc s (rotateRight s.p.m s.p))

/-- INX, INY, DEX and DEY (R276, R277, R279, R280): one more or one less modulo the index width, with n and z. -/
def Obligations.IndexRegistersCount : Prop :=
  ∀ s : State,
    (encode .inx = [0xE8] ∧ encode .iny = [0xC8] ∧ encode .dex = [0xCA] ∧ encode .dey = [0x88]) ∧
    exec .inx s = .next { s with x := indexResult s.p.x (s.x + 1), p := nzFrom s.p.x (s.x + 1) s.p } ∧
    exec .iny s = .next { s with y := indexResult s.p.x (s.y + 1), p := nzFrom s.p.x (s.y + 1) s.p } ∧
    exec .dex s = .next { s with x := indexResult s.p.x (s.x - 1), p := nzFrom s.p.x (s.x - 1) s.p } ∧
    exec .dey s = .next { s with y := indexResult s.p.x (s.y - 1), p := nzFrom s.p.x (s.y - 1) s.p }

/-! Transfers. -/

/-- The transfers whose width follows the destination (R220 to R226): x for X and Y, m for the accumulator. -/
def Obligations.TransfersFollowTheDestinationWidth : Prop :=
  ∀ s : State,
    (encode .tax = [0xAA] ∧ encode .tay = [0xA8] ∧ encode .txa = [0x8A] ∧ encode .tya = [0x98] ∧ encode .txy = [0x9B] ∧
      encode .tyx = [0xBB] ∧ encode .tsx = [0xBA]) ∧
    exec .tax s = .next { s with x := indexResult s.p.x s.c, p := nzFrom s.p.x s.c s.p } ∧
    exec .tay s = .next { s with y := indexResult s.p.x s.c, p := nzFrom s.p.x s.c s.p } ∧
    exec .tsx s = .next { s with x := indexResult s.p.x s.sp, p := nzFrom s.p.x s.sp s.p } ∧
    exec .txy s = .next { s with y := indexResult s.p.x s.x, p := nzFrom s.p.x s.x s.p } ∧
    exec .tyx s = .next { s with x := indexResult s.p.x s.y, p := nzFrom s.p.x s.y s.p } ∧
    exec .txa s = .next { s with c := accResult s.p.m s.c s.x, p := nzFrom s.p.m s.x s.p } ∧
    exec .tya s = .next { s with c := accResult s.p.m s.c s.y, p := nzFrom s.p.m s.y s.p }

/-- The transfers of the stack pointer and the 16-bit transfers (R227 to R232): TXS and TCS write no flag and keep
S[15:8] = 0x01 in emulation mode; TCD, TDC and TSC move and test 16 bits whatever m is; XBA tests the new A. -/
def Obligations.WideTransfersMoveSixteenBits : Prop :=
  ∀ s : State,
    (encode .txs = [0x9A] ∧ encode .tcs = [0x1B] ∧ encode .tcd = [0x5B] ∧ encode .tdc = [0x7B] ∧ encode .tsc = [0x3B] ∧
      encode .xba = [0xEB]) ∧
    exec .txs s = .next { s with sp := if s.e then pair 0x01 (lo s.x) else s.x } ∧
    exec .tcs s = .next { s with sp := if s.e then pair 0x01 (lo s.c) else s.c } ∧
    exec .tcd s = .next { s with d := s.c, p := nzFrom false s.c s.p } ∧
    exec .tdc s = .next { s with c := s.d, p := nzFrom false s.d s.p } ∧
    exec .tsc s = .next { s with c := s.sp, p := nzFrom false s.sp s.p } ∧
    exec .xba s = .next { s with c := pair (lo s.c) (hi s.c), p := nzFrom true (zext16 (hi s.c)) s.p }

/-! The stack. -/

/-- Every push (R240 to R249): what is pushed, where S goes, and that nothing else changes. -/
def Obligations.PushesWriteTheStack : Prop :=
  ∀ (s : State) (v : Word) (d : Byte),
    (encode .pha = [0x48] ∧ encode .phx = [0xDA] ∧ encode .phy = [0x5A] ∧ encode .php = [0x08] ∧ encode .phb = [0x8B] ∧
      encode .phk = [0x4B] ∧ encode .phd = [0x0B] ∧ encode (.pea v) = [0xF4, lo v, hi v] ∧ encode (.pei d) = [0xD4, d] ∧
      encode (.per v) = [0x62, lo v, hi v]) ∧
    PushesReg .pha (linear s 0x48) s.p.m s.c s ∧
    PushesReg .phx (linear s 0xDA) s.p.x s.x s ∧
    PushesReg .phy (linear s 0x5A) s.p.x s.y s ∧
    PushesByte .php (linear s 0x08) (pByte s.e true s.p) s ∧
    PushesByte .phb (linear s 0x8B) s.db s ∧
    PushesByte .phk (linear s 0x4B) s.pb s ∧
    PushesWord .phd (linear s 0x0B) s.d s ∧
    PushesWord (.pea v) (linear s 0xF4) v s ∧
    PushesWord (.per v) (linear s 0x62) (s.pc + v) s ∧
    (let p := read16 (ptrStep 0xD4 s) (dpAddr s d 0) s
     ∃ t, exec (.pei d) s = .next t ∧ t = afterPushWord (linear s 0xD4) p.1 p.2 ∧
       PushedWord (linear s 0xD4) p.1 s t)

/-- Every pull (R250 to R255): the register takes the pulled value, S moves up, n and z are set (PLP: all of P), and
memory and every other register stay. -/
def Obligations.PullsReadTheStack : Prop :=
  ∀ s : State,
    (encode .pla = [0x68] ∧ encode .plx = [0xFA] ∧ encode .ply = [0x7A] ∧ encode .plb = [0xAB] ∧ encode .pld = [0x2B] ∧
      encode .plp = [0x28]) ∧
    (∃ t, exec .pla s = .next t ∧ SameMemory s t ∧
      let v := pullW (linear s 0x68) (widthOf s.p.m) s
      t = { s with c := accResult s.p.m s.c v.1, p := nzFrom s.p.m v.1 s.p, sp := v.2.sp, bus := v.2.bus }) ∧
    (∃ t, exec .plx s = .next t ∧ SameMemory s t ∧
      let v := pullW (linear s 0xFA) (widthOf s.p.x) s
      t = { s with x := indexResult s.p.x v.1, p := nzFrom s.p.x v.1 s.p, sp := v.2.sp, bus := v.2.bus }) ∧
    (∃ t, exec .ply s = .next t ∧ SameMemory s t ∧
      let v := pullW (linear s 0x7A) (widthOf s.p.x) s
      t = { s with y := indexResult s.p.x v.1, p := nzFrom s.p.x v.1 s.p, sp := v.2.sp, bus := v.2.bus }) ∧
    (∃ t, exec .plb s = .next t ∧ SameMemory s t ∧
      let v := pull8 (linear s 0xAB) s
      t = { s with db := v.1, p := nzFrom true (zext16 v.1) s.p, sp := v.2.sp, bus := v.2.bus }) ∧
    (∃ t, exec .pld s = .next t ∧ SameMemory s t ∧
      let v := pull16 (linear s 0x2B) s
      t = { s with d := v.1, p := nzFrom false v.1 s.p, sp := v.2.sp, bus := v.2.bus }) ∧
    (∃ t, exec .plp s = .next t ∧ SameMemory s t ∧
      let v := pull8 (linear s 0x28) s
      let f := flagsOfByte s.e v.1
      t = { s with
            p := f, sp := v.2.sp, bus := v.2.bus
            x := if f.x then zext16 (lo s.x) else s.x, y := if f.x then zext16 (lo s.y) else s.y })

/-- A pull (R88): S moves up first, then the byte there is read; a 16-bit pull is two of them, the low byte first, and a
pull at a width is one or two. From RAM or ROM come the bytes above S, little-endian. -/
def Obligations.PulledBytesAreThoseAboveS : Prop :=
  ∀ (s : State) (lin : Bool),
    let s1 := above s.e lin s.sp
    let s2 := above s.e lin s1
    let l := pull8 lin s
    let h := pull8 lin l.2
    l = ((s.bus.read8 (bank0 s1)).1, { s with sp := s1, bus := (s.bus.read8 (bank0 s1)).2 }) ∧
    pull16 lin s = (pair h.1 l.1, h.2) ∧ (pull16 lin s).2.sp = s2 ∧
    pullW lin .w8 s = (zext16 l.1, l.2) ∧ pullW lin .w16 s = pull16 lin s ∧
    (s.backed (bank0 s1) = true →
      l.1 = s.peek (bank0 s1) ∧
      (s.backed (bank0 s2) = true → (pull16 lin s).1 = pair (s.peek (bank0 s2)) (s.peek (bank0 s1))))

/-- What is pushed is pulled, and S is back where it was, wherever in bank 0 the stack's RAM lies and in both modes. -/
def Obligations.PullAfterPushGivesTheValueBack : Prop :=
  ∀ (s : State) (lin : Bool) (v : Word), s.bus.mem.wf = true → s.ram (bank0 s.sp) = true →
    s.ram (bank0 (below s.e lin s.sp)) = true →
      (pull16 lin (push16 lin v s)).1 = v ∧ (pull16 lin (push16 lin v s)).2.sp = s.sp ∧
      (pull8 lin (push8 lin (lo v) s)).1 = lo v ∧ (pull8 lin (push8 lin (lo v) s)).2.sp = s.sp

/-! Control transfer. -/

/-- The relative branches (R330 to R340): PC alone may change, to the target when the condition holds; PB stays. -/
def Obligations.BranchesMoveThePcAlone : Prop :=
  ∀ (s : State) (r : Byte) (rl : Word),
    let taken (b : Bool) : State := if b then { s with pc := s.pc + r.signExtend 16 } else s
    (encode (.bcc r) = [0x90, r] ∧ encode (.bcs r) = [0xB0, r] ∧ encode (.beq r) = [0xF0, r] ∧ encode (.bne r) = [0xD0, r] ∧
      encode (.bmi r) = [0x30, r] ∧ encode (.bpl r) = [0x10, r] ∧ encode (.bvc r) = [0x50, r] ∧ encode (.bvs r) = [0x70, r] ∧
      encode (.bra r) = [0x80, r] ∧ encode (.brl rl) = [0x82, lo rl, hi rl]) ∧
    exec (.bcc r) s = .next (taken (!s.p.c)) ∧ exec (.bcs r) s = .next (taken s.p.c) ∧
    exec (.beq r) s = .next (taken s.p.z) ∧ exec (.bne r) s = .next (taken (!s.p.z)) ∧
    exec (.bmi r) s = .next (taken s.p.n) ∧ exec (.bpl r) s = .next (taken (!s.p.n)) ∧
    exec (.bvc r) s = .next (taken (!s.p.v)) ∧ exec (.bvs r) s = .next (taken s.p.v) ∧
    exec (.bra r) s = .next (taken true) ∧
    exec (.brl rl) s = .next { s with pc := s.pc + rl }

/-- The jumps (R341 to R345): the target of each, its pointer read from bank 0 or from the program bank; memory stays. -/
def Obligations.JumpsReachTheirTargets : Prop :=
  ∀ (s : State) (a : Word) (al : Addr),
    (encode (.jmpAbs a) = [0x4C, lo a, hi a] ∧ encode (.jmpInd a) = [0x6C, lo a, hi a] ∧
      encode (.jmpIndX a) = [0x7C, lo a, hi a] ∧ encode (.jmlAbsL al) = [0x5C, lo (offOf al), hi (offOf al), bankOf al] ∧
      encode (.jmlIndL a) = [0xDC, lo a, hi a]) ∧
    exec (.jmpAbs a) s = .next { s with pc := a } ∧
    exec (.jmlAbsL al) s = .next { s with pb := bankOf al, pc := offOf al } ∧
    (let v := read16 .bank (bank0 a) s
     ∃ t, exec (.jmpInd a) s = .next t ∧ t = { s with pc := v.1, bus := v.2.bus } ∧ SameMemory s t ∧
      (s.backed (bank0 a) = true → s.backed (bank0 (a + 1)) = true →
        t.pc = pair (s.peek (bank0 (a + 1))) (s.peek (bank0 a)))) ∧
    (let v := read16 .bank (mkAddr s.pb (a + s.x)) s
     ∃ t, exec (.jmpIndX a) s = .next t ∧ t = { s with pc := v.1, bus := v.2.bus } ∧ SameMemory s t ∧
      (s.backed (mkAddr s.pb (a + s.x)) = true → s.backed (mkAddr s.pb (a + s.x + 1)) = true →
        t.pc = pair (s.peek (mkAddr s.pb (a + s.x + 1))) (s.peek (mkAddr s.pb (a + s.x))))) ∧
    (let v := read24 .bank (bank0 a) s
     ∃ t, exec (.jmlIndL a) s = .next t ∧ t = { s with pb := bankOf v.1, pc := offOf v.1, bus := v.2.bus } ∧ SameMemory s t ∧
      (s.backed (bank0 a) = true → s.backed (bank0 (a + 1)) = true → s.backed (bank0 (a + 2)) = true →
        t.pc = pair (s.peek (bank0 (a + 1))) (s.peek (bank0 a)) ∧ t.pb = s.peek (bank0 (a + 2))))

/-- The calls (R346 to R348): the offset of the call's last byte is pushed, JSL pushes PB before it, and control goes to
the target; JSR (a,X) reads its pointer in the program bank after the push. -/
def Obligations.CallsPushTheReturnAddress : Prop :=
  ∀ (s : State) (a : Word) (al : Addr),
    (encode (.jsrAbs a) = [0x20, lo a, hi a] ∧ encode (.jsl al) = [0x22, lo (offOf al), hi (offOf al), bankOf al] ∧
      encode (.jsrIndX a) = [0xFC, lo a, hi a]) ∧
    exec (.jsrAbs a) s = .next { afterPushWord (linear s 0x20) (s.pc - 1) s with pc := a } ∧
    (∃ t, exec (.jsrAbs a) s = .next t ∧ PushedWord (linear s 0x20) (s.pc - 1) s t) ∧
    (let b : State := { s with sp := below s.e (linear s 0x22) s.sp, bus := s.bus.write8 (bank0 s.sp) s.pb }
     exec (.jsl al) s = .next { afterPushWord (linear s 0x22) (s.pc - 1) b with pb := bankOf al, pc := offOf al }) ∧
    (∃ t, exec (.jsl al) s = .next t ∧ WritesBytes (longCells (linear s 0x22) s.pb (s.pc - 1) s) s t) ∧
    (let q := afterPushWord (linear s 0xFC) (s.pc - 1) s
     let v := read16 .bank (mkAddr s.pb (a + s.x)) q
     ∃ t, exec (.jsrIndX a) s = .next t ∧ t = { q with pc := v.1, bus := v.2.bus } ∧ SameMemory q t ∧
       PushedWord (linear s 0xFC) (s.pc - 1) s t ∧
       (s.backed (mkAddr s.pb (a + s.x)) = true → s.backed (mkAddr s.pb (a + s.x + 1)) = true →
         t.pc = pair (q.peek (mkAddr s.pb (a + s.x + 1))) (q.peek (mkAddr s.pb (a + s.x)))))

/-- The returns (R349, R350): PC is the pulled offset plus one; RTL pulls the bank after it, RTS keeps PB; memory stays. -/
def Obligations.ReturnsPullTheReturnAddress : Prop :=
  ∀ s : State,
    (encode .rts = [0x60] ∧ encode .rtl = [0x6B]) ∧
    (∃ t, exec .rts s = .next t ∧ SameMemory s t ∧
      let v := pull16 (linear s 0x60) s
      t = { s with pc := v.1 + 1, sp := v.2.sp, bus := v.2.bus }) ∧
    (∃ t, exec .rtl s = .next t ∧ SameMemory s t ∧
      let v := pull16 (linear s 0x6B) s
      let b := pull8 (linear s 0x6B) v.2
      t = { s with pc := v.1 + 1, pb := b.1, sp := b.2.sp, bus := b.2.bus })

/-- A subroutine call is undone by its return, in both modes, where the stack bytes of the call are RAM: RTS after either
JSR and RTL after JSL resume at the next instruction in sequence with S as before. An opcode whose stack accesses are linear
in emulation mode (R90) needs S high enough in its page: lower, it pushes or pulls outside page 1, and S[15:8] is forced
between the two instructions. -/
def Obligations.ReturnUndoesTheCall : Prop :=
  ∀ (s : State) (a : Word) (al : Addr), Inv s →
    (let cells := wordCells (linear s 0x20) (s.pc - 1) s
     (∀ c ∈ cells, s.ram c.1 = true) → Returns (.jsrAbs a) .rts cells s) ∧
    (let cells := wordCells (linear s 0xFC) (s.pc - 1) s
     (∀ c ∈ cells, s.ram c.1 = true) → StaysInPageOne 0xFC 1 s → Returns (.jsrIndX a) .rts cells s) ∧
    (let cells := longCells (linear s 0x22) s.pb (s.pc - 1) s
     (∀ c ∈ cells, s.ram c.1 = true) → StaysInPageOne 0x22 2 s → StaysInPageOne 0x6B 3 s → Returns (.jsl al) .rtl cells s)

/-! Flags and modes. -/

/-- The single-flag instructions (R370 to R376) write their flag and nothing else. REP and SEP (R377, R378), flag by flag:
a flag whose bit is set in the operand is cleared or set, m and x in native mode only; a set x clears the high bytes of
X and Y; nothing else changes. -/
def Obligations.FlagInstructionsWriteTheirFlags : Prop :=
  ∀ (s : State) (b : Byte),
    (encode .clc = [0x18] ∧ encode .sec = [0x38] ∧ encode .cli = [0x58] ∧ encode .sei = [0x78] ∧ encode .cld = [0xD8] ∧
      encode .sed = [0xF8] ∧ encode .clv = [0xB8] ∧ encode (.rep b) = [0xC2, b] ∧ encode (.sep b) = [0xE2, b]) ∧
    exec .clc s = .next { s with p := { s.p with c := false } } ∧ exec .sec s = .next { s with p := { s.p with c := true } } ∧
    exec .cli s = .next { s with p := { s.p with i := false } } ∧ exec .sei s = .next { s with p := { s.p with i := true } } ∧
    exec .cld s = .next { s with p := { s.p with d := false } } ∧ exec .sed s = .next { s with p := { s.p with d := true } } ∧
    exec .clv s = .next { s with p := { s.p with v := false } } ∧
    (∃ t, exec (.rep b) s = .next t ∧ t = { s with p := t.p } ∧
      t.p.n = (if b.getLsbD 7 then false else s.p.n) ∧ t.p.v = (if b.getLsbD 6 then false else s.p.v) ∧
      t.p.m = (if s.e = false ∧ b.getLsbD 5 = true then false else s.p.m) ∧
      t.p.x = (if s.e = false ∧ b.getLsbD 4 = true then false else s.p.x) ∧
      t.p.d = (if b.getLsbD 3 then false else s.p.d) ∧ t.p.i = (if b.getLsbD 2 then false else s.p.i) ∧
      t.p.z = (if b.getLsbD 1 then false else s.p.z) ∧ t.p.c = (if b.getLsbD 0 then false else s.p.c)) ∧
    (∃ t, exec (.sep b) s = .next t ∧ t = { s with p := t.p, x := t.x, y := t.y } ∧
      t.p.n = (if b.getLsbD 7 then true else s.p.n) ∧ t.p.v = (if b.getLsbD 6 then true else s.p.v) ∧
      t.p.m = (if s.e = false ∧ b.getLsbD 5 = true then true else s.p.m) ∧
      t.p.x = (if s.e = false ∧ b.getLsbD 4 = true then true else s.p.x) ∧
      t.p.d = (if b.getLsbD 3 then true else s.p.d) ∧ t.p.i = (if b.getLsbD 2 then true else s.p.i) ∧
      t.p.z = (if b.getLsbD 1 then true else s.p.z) ∧ t.p.c = (if b.getLsbD 0 then true else s.p.c) ∧
      t.x = (if t.p.x then zext16 (lo s.x) else s.x) ∧ t.y = (if t.p.x then zext16 (lo s.y) else s.y))

/-- XCE (R380): c and E change places; when E is 1 after it, m and x are 1, the high bytes of X and Y are 0 and S[15:8]
is 0x01; C and D are kept. -/
def Obligations.XceExchangesCarryAndEmulation : Prop :=
  ∀ s : State,
    encode .xce = [0xFB] ∧
    (s.p.c = false → exec .xce s = .next { s with e := false, p := { s.p with c := s.e } }) ∧
    (s.p.c = true → exec .xce s = .next
      { s with
        e := true, p := { s.p with c := s.e, m := true, x := true }
        x := zext16 (lo s.x), y := zext16 (lo s.y), sp := pair 0x01 (lo s.sp) })

/-- The P byte (R40), bit by bit, and its inverse `SetP` (R41). In both modes n, v, d, i, z and c are bits 7, 6, 3, 2, 1 and
0. Bits 5 and 4 are m and x in native mode; in emulation mode they are 1 and the B flag, they are ignored when the byte is
read back, and m and x are then 1. -/
def Obligations.StatusByteRoundTrip : Prop :=
  ∀ (p : Flags) (b : Bool),
    (∀ e : Bool,
      (pByte e b p).getLsbD 7 = p.n ∧ (pByte e b p).getLsbD 6 = p.v ∧ (pByte e b p).getLsbD 3 = p.d ∧
      (pByte e b p).getLsbD 2 = p.i ∧ (pByte e b p).getLsbD 1 = p.z ∧ (pByte e b p).getLsbD 0 = p.c) ∧
    (pByte false b p).getLsbD 5 = p.m ∧ (pByte false b p).getLsbD 4 = p.x ∧
    (pByte true b p).getLsbD 5 = true ∧ (pByte true b p).getLsbD 4 = b ∧
    flagsOfByte false (pByte false b p) = p ∧
    flagsOfByte true (pByte true b p) = { p with m := true, x := true } ∧
    (∀ v : Byte, pByte false b (flagsOfByte false v) = v ∧
      flagsOfByte true v = { flagsOfByte false v with m := true, x := true })

/-! Exceptions and system instructions. -/

/-- The vectors (R521), and the B flag of each kind (R500). -/
def Obligations.VectorTable : Prop :=
  (Interrupt.cop.vector false = 0xFFE4 ∧ Interrupt.cop.vector true = 0xFFF4) ∧
  (Interrupt.brk.vector false = 0xFFE6 ∧ Interrupt.brk.vector true = 0xFFFE) ∧
  (Interrupt.nmi.vector false = 0xFFEA ∧ Interrupt.nmi.vector true = 0xFFFA) ∧
  (Interrupt.irq.vector false = 0xFFEE ∧ Interrupt.irq.vector true = 0xFFFE) ∧
  (Interrupt.nmi.bflag = false ∧ Interrupt.irq.bflag = false ∧ Interrupt.brk.bflag = true ∧ Interrupt.cop.bflag = true)

/-- The entry sequence (R520), for NMI, IRQ, BRK and COP. Registers: i is 1, d is 0, PB is 0, the core runs, NMI clears
its latch, S drops by the frame, PC is the vector read from bank 0; nothing else changes. The vector's bytes may be RAM or
ROM. Memory: where the bytes of the frame are RAM or ROM, every other byte reads as before, and in RAM the frame holds P, PCL,
PCH and, in native mode, PB. -/
def Obligations.InterruptEntrySavesAndVectors : Prop :=
  ∀ (k : Interrupt) (s : State),
    let t := takeInterrupt k s
    let d3 := below s.e false (below s.e false (below s.e false s.sp))
    let v := bank0 (k.vector s.e)
    let q := push8 false (pByte s.e k.bflag s.p) (push16 false s.pc (if s.e then s else push8 false s.pb s))
    t = { s with
          p := { s.p with i := true, d := false }, iPoll := true, pb := 0x00, run := .running
          nmiPending := if k = .nmi then false else s.nmiPending
          sp := if s.e then d3 else below s.e false d3, pc := (q.bus.read16 .bank v).1, bus := (q.bus.read16 .bank v).2 } ∧
    (s.backed v = true → s.backed (bank0 (k.vector s.e + 1)) = true →
      t.pc = pair (t.peek (bank0 (k.vector s.e + 1))) (t.peek v)) ∧
    WritesBytes (entryFrame k s) s t

/-- RTI (R395): P from the first byte pulled, PC from the next two, PB from a fourth in native mode only; a pulled x clears
the high bytes of X and Y; memory and every other register stay. -/
def Obligations.RtiRestoresTheInterruptedState : Prop :=
  ∀ s : State,
    let b := pull8 false s
    let f := flagsOfByte s.e b.1
    let v := pull16 false b.2
    let k := pull8 false v.2
    encode .rti = [0x40] ∧
    ∃ t, exec .rti s = .next t ∧ SameMemory s t ∧
      t = { s with
            p := f, pc := v.1
            x := if f.x then zext16 (lo s.x) else s.x, y := if f.x then zext16 (lo s.y) else s.y
            pb := if s.e then s.pb else k.1, sp := if s.e then v.2.sp else k.2.sp
            bus := if s.e then v.2.bus else k.2.bus }

/-- RTI undoes an exception (R530), where the bytes of its frame are RAM and whatever backs the vectors: run at once in the
handler, it brings back P, PC, S and, in native mode, PB, every other register is as it was, and so is every byte of memory
outside the frame; in emulation mode PB stays 0. -/
def Obligations.RtiUndoesTheEntry : Prop :=
  ∀ (k : Interrupt) (s : State), Inv s → (∀ c ∈ entryFrame k s, s.ram c.1 = true) →
    ∃ u, exec .rti (takeInterrupt k s) = .next u ∧
      u = { s with
            bus := u.bus, iPoll := true, run := .running
            nmiPending := if k = .nmi then false else s.nmiPending
            pb := if s.e then 0x00 else s.pb } ∧
      ∀ a : Addr, (∀ c ∈ entryFrame k s, a ≠ c.1) → u.peek a = s.peek a

/-- The system instructions: BRK and COP take their exception, and the entry sequence is their whole effect whatever the
signature (R390, R391, R503); NOP and WDM change nothing (R392, R393); WAI and STP set the run state (R396, R397). -/
def Obligations.SystemInstructionsHaveTheirEffect : Prop :=
  ∀ (s : State) (b : Byte),
    (encode (.brk b) = [0x00, b] ∧ encode (.cop b) = [0x02, b] ∧ encode .nop = [0xEA] ∧ encode (.wdm b) = [0x42, b] ∧
      encode .wai = [0xCB] ∧ encode .stp = [0xDB]) ∧
    exec (.brk b) s = .next (takeInterrupt .brk s) ∧ exec (.cop b) s = .next (takeInterrupt .cop s) ∧
    exec .nop s = .next s ∧ exec (.wdm b) s = .next s ∧
    exec .wai s = .next { s with run := .waiting } ∧ exec .stp s = .next { s with run := .stopped }

/-- One execution of MVN or MVP (R400 to R402): one byte goes from u:X to t:Y, X and Y step at the index width, C drops
by one in all 16 bits, DB is the destination bank, and PC goes back to the opcode until C wraps. -/
def Obligations.BlockMoveMovesOneByte : Prop :=
  ∀ (s : State) (dst src : Byte),
    let r := (s.bus.read8 (mkAddr src s.x)).2
    let v := (s.bus.read8 (mkAddr src s.x)).1
    let after (delta : Word) : State :=
      { s with
        db := dst, c := s.c - 1, x := indexResult s.p.x (s.x + delta), y := indexResult s.p.x (s.y + delta)
        pc := if s.c = 0x0000 then s.pc else s.pc - 3, bus := r.write8 (mkAddr dst s.y) v }
    (encode (.mvn dst src) = [0x54, dst, src] ∧ encode (.mvp dst src) = [0x44, dst, src]) ∧
    (exec (.mvn dst src) s = .next (after 1) ∧ exec (.mvp dst src) s = .next (after (-1))) ∧
    (s.backed (mkAddr src s.x) = true → v = s.peek (mkAddr src s.x)) ∧
    Stored .w8 ⟨mkAddr dst s.y, .bank⟩ (zext16 v) s (after 1)

/-! Rules of the whole machine. -/

/-- Which instructions write E, D, DB and PB (R36, R37, R38, R42): no other instruction changes them. -/
def Obligations.ModeAndBankRegisterWriters : Prop :=
  ∀ (i : Instr) (s t : State), exec i s = .next t →
    (t.e ≠ s.e → mnemonic i = "XCE") ∧
    (t.d ≠ s.d → mnemonic i ∈ ["TCD", "PLD"]) ∧
    (t.db ≠ s.db → mnemonic i ∈ ["PLB", "MVN", "MVP"]) ∧
    (t.pb ≠ s.pb → mnemonic i ∈ ["JML", "JSL", "RTL", "RTI", "BRK", "COP"]) ∧
    t.params = s.params ∧ t.bus.regions = s.bus.regions ∧ t.irqLine = s.irqLine ∧
    t.resetPending = s.resetPending ∧ t.nmiPending = s.nmiPending

/-- Which instructions write which flags (R53): a flag changes only under an instruction its row names. -/
def Obligations.FlagWriterTable : Prop :=
  ∀ (i : Instr) (s t : State), exec i s = .next t →
    (t.p.n ≠ s.p.n → mnemonic i ∈ ["ADC", "SBC", "AND", "ORA", "EOR", "CMP", "CPX", "CPY", "INC", "DEC", "INX", "INY",
      "DEX", "DEY", "ASL", "LSR", "ROL", "ROR", "LDA", "LDX", "LDY", "PLA", "PLX", "PLY", "PLB", "PLD", "TAX", "TAY",
      "TXA", "TYA", "TXY", "TYX", "TSX", "TCD", "TDC", "TSC", "XBA", "PLP", "RTI", "REP", "SEP", "BIT"]) ∧
    (t.p.z ≠ s.p.z → mnemonic i ∈ ["ADC", "SBC", "AND", "ORA", "EOR", "CMP", "CPX", "CPY", "INC", "DEC", "INX", "INY",
      "DEX", "DEY", "ASL", "LSR", "ROL", "ROR", "LDA", "LDX", "LDY", "PLA", "PLX", "PLY", "PLB", "PLD", "TAX", "TAY",
      "TXA", "TYA", "TXY", "TYX", "TSX", "TCD", "TDC", "TSC", "XBA", "PLP", "RTI", "REP", "SEP", "BIT", "TSB", "TRB"]) ∧
    (t.p.v ≠ s.p.v → mnemonic i ∈ ["ADC", "SBC", "BIT", "CLV", "PLP", "RTI", "REP", "SEP"]) ∧
    (t.p.m ≠ s.p.m → mnemonic i ∈ ["REP", "SEP", "PLP", "RTI", "XCE"]) ∧
    (t.p.x ≠ s.p.x → mnemonic i ∈ ["REP", "SEP", "PLP", "RTI", "XCE"]) ∧
    (t.p.d ≠ s.p.d → mnemonic i ∈ ["CLD", "SED", "PLP", "RTI", "REP", "SEP", "BRK", "COP"]) ∧
    (t.p.i ≠ s.p.i → mnemonic i ∈ ["CLI", "SEI", "PLP", "RTI", "REP", "SEP", "BRK", "COP"]) ∧
    (t.p.c ≠ s.p.c → mnemonic i ∈ ["ADC", "SBC", "CMP", "CPX", "CPY", "ASL", "LSR", "ROL", "ROR", "CLC", "SEC", "XCE",
      "PLP", "RTI", "REP", "SEP"]) ∧
    (∀ v : Imm, i = .bitImm v → t.p.n = s.p.n ∧ t.p.v = s.p.v)

/-! The Step. -/

/-- The bytes at PB:PC and after, PC wrapping within the bank (R39, R121). -/
def Sys2Proof.Claim.codeAt (s : State) (n : Nat) : List Byte :=
  (List.range n).map fun k => s.peek (mkAddr s.pb (s.pc + BitVec.ofNat 16 k))

/-- When no event is taken, the Step runs the instruction the bytes at PB:PC decode to (R121, R630): exactly its bytes are
fetched, in order; `exec` runs with PC after them; then S[15:8] is forced in emulation mode, `i_poll` is set by
`IRQ_POLL_POINT` and the cost is returned. -/
def Obligations.StepRunsTheDecodedInstruction : Prop :=
  ∀ (s : State) (i : Instr) (n : Nat),
    s.resetPending = false → s.run = .running → s.nmiPending = false → (s.irqLine = true → s.iPoll = true) →
    (∀ k, k < n → s.backed (mkAddr s.pb (s.pc + BitVec.ofNat 16 k)) = true) →
    decode ⟨s.p.m, s.p.x⟩ (codeAt s n) = .ok (i, []) →
      let f : State :=
        { s with
          pc := s.pc + BitVec.ofNat 16 n, cost := 0
          bus := { s.bus with
                   log := ((List.range n).map fun k =>
                     let a := mkAddr s.pb (s.pc + BitVec.ofNat 16 k)
                     BusAccess.read a (s.peek a)).reverse } }
      step s =
        match exec i f with
        | .next t => .next
            { t with
              sp := if t.e then pair 0x01 (lo t.sp) else t.sp
              iPoll := if t.params.pollPoint = .beforeFinalFlagWrite ∧
                  mnemonic i ∈ ["CLI", "SEI", "PLP", "REP", "SEP"] then s.p.i else t.p.i
              cost := instrCost i f }
        | .fault r => .fault r
        | .refused r => .refused r

/-- Every Step completes: no fault, no refusal, in any state. The core has no synchronous fault (R501) and no bus access
fails (R80). The outcome fault Unknown, with which R630 may end a Step (R31, R32), does not occur by log entry 1 (DESIGN
CHOICE): every register holds a value, and Fault has no constructor. -/
def Obligations.EveryStepCompletes : Prop := ∀ s : State, ∃ t, step s = .next t

/-- The reset sequence (R600), taken first whatever the run state and the other requests: the forced values, the vector at
00:FFFC, 7 cycles, no memory write; a soft reset keeps C, X[7:0], Y[7:0], n, v, z and c. -/
def Obligations.ResetForcesItsValues : Prop :=
  ∀ s : State, s.resetPending = true →
    ∃ t, step s = .next t ∧
      t.e = true ∧ t.p.m = true ∧ t.p.x = true ∧ t.p.d = false ∧ t.p.i = true ∧ t.iPoll = true ∧
      hi t.x = 0x00 ∧ hi t.y = 0x00 ∧ hi t.sp = 0x01 ∧ t.d = 0x0000 ∧ t.db = 0x00 ∧ t.pb = 0x00 ∧
      t.nmiPending = false ∧ t.resetPending = false ∧ t.run = .running ∧ t.cost = 7 ∧ t.bus.mem = s.bus.mem ∧
      t.irqLine = s.irqLine ∧ t.params = s.params ∧
      (∃ l h, t.pc = pair h l ∧ t.bus.log = [.read 0x00FFFD h, .read 0x00FFFC l]) ∧
      (s.backed 0x00FFFC = true → s.backed 0x00FFFD = true → t.pc = pair (s.peek 0x00FFFD) (s.peek 0x00FFFC)) ∧
      (s.resetKind = .soft → t.c = s.c ∧ lo t.x = lo s.x ∧ lo t.y = lo s.y ∧ t.p.n = s.p.n ∧ t.p.v = s.p.v ∧
        t.p.z = s.p.z ∧ t.p.c = s.p.c)

/-- The events of a Step boundary in a running core (R505, R515, R522): a reset comes first, then an NMI, then an IRQ, and
that only when `i_poll` is 0; an entry's Step executes no instruction and costs 7 cycles in emulation mode and 8 in native mode. -/
def Obligations.BoundaryEventsInPriorityOrder : Prop :=
  ∀ s : State, s.run = .running →
    let c := if s.e then 7 else 8
    (s.resetPending = true → step s = .next { resetSequence s.resetKind s.beginStep with cost := 7 }) ∧
    (s.resetPending = false → s.nmiPending = true → step s = .next { takeInterrupt .nmi s.beginStep with cost := c }) ∧
    (s.resetPending = false → s.nmiPending = false → s.irqLine = true → s.iPoll = false →
      step s = .next { takeInterrupt .irq s.beginStep with cost := c }) ∧
    (s.resetPending = false → s.nmiPending = false → (s.irqLine = true → s.iPoll = true) →
      step s = executeOne s.beginStep)

/-- The stopped and the waiting state (R396, R397, R550, R631): a Step makes no bus access, changes nothing and returns
`WAIT_STEP_CYCLES`; a stopped core is woken by no interrupt; a waiting core with an NMI or IRQ asserted wakes, and an IRQ
with i = 1 resumes at the next instruction without entry. -/
def Obligations.StoppedAndWaitingStates : Prop :=
  ∀ s : State, s.resetPending = false →
    let idle : State := { s with cost := s.params.waitStepCycles, bus := { s.bus with log := [] } }
    (s.params.wf = true → 1 ≤ s.params.waitStepCycles) ∧
    (s.run = .stopped → step s = .next idle) ∧
    (s.run = .waiting → s.nmiPending = false → s.irqLine = false → step s = .next idle) ∧
    (s.run = .waiting → s.nmiPending = false → s.irqLine = true → s.p.i = true →
      step s = executeOne { s.beginStep with run := .running }) ∧
    (s.run = .waiting → (s.nmiPending = true ∨ (s.irqLine = true ∧ s.p.i = false)) →
      step s = step { s with run := .running })

/-- The costs worked out in R633, and those of the instructions in the vectors of 95_test_vectors.md, for every operand and in
every state that meets their conditions. `s` is the state after the fetch and before the effect. The page clauses rest on log
entry 14 (DEDUCED): (d),Y compares the page of its address with that of the pointer as it is read, a branch its target's
page with that of PC after the operand. -/
def Obligations.WorkedCycleCosts : Prop :=
  ∀ (s : State) (v : Imm) (d r t u : Byte),
    let aligned := lo s.d = 0x00
    let crosses := pageOf (eaDpIndY d s).1.addr ≠ pageOf (mkAddr s.db (dpPointer d 0 s).1)
    let newPage := hi (s.pc + r.signExtend 16) ≠ hi s.pc
    (instrCost (.ldaImm v) s = if s.p.m then 2 else 3) ∧
    (s.p.m = true → ¬ aligned →
      (s.p.x = false ∨ crosses → instrCost (.ldaDpIndY d) s = 7) ∧
      (s.p.x = true → ¬ crosses → instrCost (.ldaDpIndY d) s = 6)) ∧
    (s.p.z = false →
      (s.e = true ∧ newPage → instrCost (.bne r) s = 4) ∧ (¬ (s.e = true ∧ newPage) → instrCost (.bne r) s = 3)) ∧
    (s.p.z = true → instrCost (.bne r) s = 2) ∧
    (s.p.m = false → (aligned → instrCost (.adcDp d) s = 4) ∧ (¬ aligned → instrCost (.adcDp d) s = 5)) ∧
    (s.p.m = false → (aligned → instrCost (.ldaDpX d) s = 5) ∧ (¬ aligned → instrCost (.ldaDpX d) s = 6)) ∧
    (instrCost (.brk r) s = if s.e then 7 else 8) ∧ (instrCost .rti s = if s.e then 6 else 7) ∧
    instrCost (.mvn t u) s = 7

/-- The invariant of Step boundaries is kept by every Step, from every state that meets it. -/
def Obligations.EveryStepKeepsTheInvariant : Prop := ∀ s t : State, Inv s → step s = .next t → Inv t

/-- The state after reset meets the invariant, and it is what the first Step from power-on leaves. Both states are in part the
model's choices: the register bytes and flags R600 leaves unknown (log entry 1), what unwritten memory and so the vector reads
as (2), the all-RAM bus (3), the devices' number (5), the parameters (7) and the inputs at power-on (9), each a DESIGN CHOICE;
the rest is R58, R600 and R601. -/
def Obligations.ResetMeetsTheInvariant : Prop := Inv State.reset ∧ step State.powerOn = .next State.reset

/-- A run from any state that meets the invariant is safe: each state it reaches meets the invariant and completes its
next Step. That it completes also after a hard reset, which in R600 leaves register bytes unknown and so may lead to fault
Unknown (R32), rests on log entry 1 (DESIGN CHOICE). -/
def Obligations.RunsFromTheInvariantAreSafe : Prop := ∀ s : State, Inv s → SafeFrom s

/-- What the outside does between two Steps keeps the invariant (R505, R602, R95); that it acts only there is log entry 9
(DEDUCED). The inspection snapshot holds the registers of R60, P as the byte PHP pushes (log entry 15, DESIGN CHOICE), and it
consults no bus (R548): it is the same whatever the bus holds. The save state (R59): restored in another instance it sets
every field of R30 and keeps the rest (`RESET_KIND`: log entry 16, DEDUCED), it keeps the invariant, and where that instance
has the same bus, IRQ line and parameters the next Step is that of the original. -/
def Obligations.OutsideInputsKeepTheInvariant : Prop :=
  ∀ (s : State) (b : Bool) (k : ResetKind) (a : Addr) (v : Byte) (cells : List (Addr × Byte)),
    (Inv s →
      Inv s.raiseNmi ∧ Inv (s.driveIrq b) ∧ Inv (s.requestReset k) ∧ Inv (s.agentWrite a v) ∧
      Inv (s.agentTransfer cells) ∧ ∀ n : Nat, Inv (s.devicesMove n)) ∧
    (∀ c : Addr, c ≠ a → (s.agentWrite a v).peek c = s.peek c) ∧
    s.snapshot =
      { c := s.c, x := s.x, y := s.y, sp := s.sp, d := s.d, db := s.db, pb := s.pb, pc := s.pc
        p := pByte s.e true s.p, e := s.e, run := s.run } ∧
    (∀ other : Bus, { s with bus := other }.snapshot = s.snapshot) ∧
    ∀ t : State,
      let r := t.restore s.save
      r.save = s.save ∧
      r = { s with irqLine := t.irqLine, resetKind := t.resetKind, params := t.params, bus := t.bus, cost := t.cost } ∧
      (Inv s → Inv t → Inv r) ∧
      (t.bus.mem = s.bus.mem → t.bus.regions = s.bus.regions → t.bus.devices = s.bus.devices →
        t.irqLine = s.irqLine → t.params = s.params → t.resetKind = s.resetKind → step r = step s)
end

