-- ==== Sys2Proof/Laws/State.lean ====
section
/-! SUPPORT. One lemma per field per named update of the state, each true by unfolding. -/

namespace Sys2Proof.Machine

variable (s : State)

@[simp] theorem State.withC_c (v : Word) : (s.withC v).c = v := rfl
@[simp] theorem State.withC_x (v : Word) : (s.withC v).x = s.x := rfl
@[simp] theorem State.withC_y (v : Word) : (s.withC v).y = s.y := rfl
@[simp] theorem State.withC_sp (v : Word) : (s.withC v).sp = s.sp := rfl
@[simp] theorem State.withC_d (v : Word) : (s.withC v).d = s.d := rfl
@[simp] theorem State.withC_db (v : Word) : (s.withC v).db = s.db := rfl
@[simp] theorem State.withC_pb (v : Word) : (s.withC v).pb = s.pb := rfl
@[simp] theorem State.withC_pc (v : Word) : (s.withC v).pc = s.pc := rfl
@[simp] theorem State.withC_p (v : Word) : (s.withC v).p = s.p := rfl
@[simp] theorem State.withC_e (v : Word) : (s.withC v).e = s.e := rfl
@[simp] theorem State.withC_run (v : Word) : (s.withC v).run = s.run := rfl
@[simp] theorem State.withC_nmiPending (v : Word) : (s.withC v).nmiPending = s.nmiPending := rfl
@[simp] theorem State.withC_irqLine (v : Word) : (s.withC v).irqLine = s.irqLine := rfl
@[simp] theorem State.withC_resetPending (v : Word) : (s.withC v).resetPending = s.resetPending := rfl
@[simp] theorem State.withC_resetKind (v : Word) : (s.withC v).resetKind = s.resetKind := rfl
@[simp] theorem State.withC_iPoll (v : Word) : (s.withC v).iPoll = s.iPoll := rfl
@[simp] theorem State.withC_params (v : Word) : (s.withC v).params = s.params := rfl
@[simp] theorem State.withC_bus (v : Word) : (s.withC v).bus = s.bus := rfl
@[simp] theorem State.withC_cost (v : Word) : (s.withC v).cost = s.cost := rfl

@[simp] theorem State.withX_c (v : Word) : (s.withX v).c = s.c := rfl
@[simp] theorem State.withX_x (v : Word) : (s.withX v).x = v := rfl
@[simp] theorem State.withX_y (v : Word) : (s.withX v).y = s.y := rfl
@[simp] theorem State.withX_sp (v : Word) : (s.withX v).sp = s.sp := rfl
@[simp] theorem State.withX_d (v : Word) : (s.withX v).d = s.d := rfl
@[simp] theorem State.withX_db (v : Word) : (s.withX v).db = s.db := rfl
@[simp] theorem State.withX_pb (v : Word) : (s.withX v).pb = s.pb := rfl
@[simp] theorem State.withX_pc (v : Word) : (s.withX v).pc = s.pc := rfl
@[simp] theorem State.withX_p (v : Word) : (s.withX v).p = s.p := rfl
@[simp] theorem State.withX_e (v : Word) : (s.withX v).e = s.e := rfl
@[simp] theorem State.withX_run (v : Word) : (s.withX v).run = s.run := rfl
@[simp] theorem State.withX_nmiPending (v : Word) : (s.withX v).nmiPending = s.nmiPending := rfl
@[simp] theorem State.withX_irqLine (v : Word) : (s.withX v).irqLine = s.irqLine := rfl
@[simp] theorem State.withX_resetPending (v : Word) : (s.withX v).resetPending = s.resetPending := rfl
@[simp] theorem State.withX_resetKind (v : Word) : (s.withX v).resetKind = s.resetKind := rfl
@[simp] theorem State.withX_iPoll (v : Word) : (s.withX v).iPoll = s.iPoll := rfl
@[simp] theorem State.withX_params (v : Word) : (s.withX v).params = s.params := rfl
@[simp] theorem State.withX_bus (v : Word) : (s.withX v).bus = s.bus := rfl
@[simp] theorem State.withX_cost (v : Word) : (s.withX v).cost = s.cost := rfl

@[simp] theorem State.withY_c (v : Word) : (s.withY v).c = s.c := rfl
@[simp] theorem State.withY_x (v : Word) : (s.withY v).x = s.x := rfl
@[simp] theorem State.withY_y (v : Word) : (s.withY v).y = v := rfl
@[simp] theorem State.withY_sp (v : Word) : (s.withY v).sp = s.sp := rfl
@[simp] theorem State.withY_d (v : Word) : (s.withY v).d = s.d := rfl
@[simp] theorem State.withY_db (v : Word) : (s.withY v).db = s.db := rfl
@[simp] theorem State.withY_pb (v : Word) : (s.withY v).pb = s.pb := rfl
@[simp] theorem State.withY_pc (v : Word) : (s.withY v).pc = s.pc := rfl
@[simp] theorem State.withY_p (v : Word) : (s.withY v).p = s.p := rfl
@[simp] theorem State.withY_e (v : Word) : (s.withY v).e = s.e := rfl
@[simp] theorem State.withY_run (v : Word) : (s.withY v).run = s.run := rfl
@[simp] theorem State.withY_nmiPending (v : Word) : (s.withY v).nmiPending = s.nmiPending := rfl
@[simp] theorem State.withY_irqLine (v : Word) : (s.withY v).irqLine = s.irqLine := rfl
@[simp] theorem State.withY_resetPending (v : Word) : (s.withY v).resetPending = s.resetPending := rfl
@[simp] theorem State.withY_resetKind (v : Word) : (s.withY v).resetKind = s.resetKind := rfl
@[simp] theorem State.withY_iPoll (v : Word) : (s.withY v).iPoll = s.iPoll := rfl
@[simp] theorem State.withY_params (v : Word) : (s.withY v).params = s.params := rfl
@[simp] theorem State.withY_bus (v : Word) : (s.withY v).bus = s.bus := rfl
@[simp] theorem State.withY_cost (v : Word) : (s.withY v).cost = s.cost := rfl

@[simp] theorem State.withSP_c (v : Word) : (s.withSP v).c = s.c := rfl
@[simp] theorem State.withSP_x (v : Word) : (s.withSP v).x = s.x := rfl
@[simp] theorem State.withSP_y (v : Word) : (s.withSP v).y = s.y := rfl
@[simp] theorem State.withSP_sp (v : Word) : (s.withSP v).sp = v := rfl
@[simp] theorem State.withSP_d (v : Word) : (s.withSP v).d = s.d := rfl
@[simp] theorem State.withSP_db (v : Word) : (s.withSP v).db = s.db := rfl
@[simp] theorem State.withSP_pb (v : Word) : (s.withSP v).pb = s.pb := rfl
@[simp] theorem State.withSP_pc (v : Word) : (s.withSP v).pc = s.pc := rfl
@[simp] theorem State.withSP_p (v : Word) : (s.withSP v).p = s.p := rfl
@[simp] theorem State.withSP_e (v : Word) : (s.withSP v).e = s.e := rfl
@[simp] theorem State.withSP_run (v : Word) : (s.withSP v).run = s.run := rfl
@[simp] theorem State.withSP_nmiPending (v : Word) : (s.withSP v).nmiPending = s.nmiPending := rfl
@[simp] theorem State.withSP_irqLine (v : Word) : (s.withSP v).irqLine = s.irqLine := rfl
@[simp] theorem State.withSP_resetPending (v : Word) : (s.withSP v).resetPending = s.resetPending := rfl
@[simp] theorem State.withSP_resetKind (v : Word) : (s.withSP v).resetKind = s.resetKind := rfl
@[simp] theorem State.withSP_iPoll (v : Word) : (s.withSP v).iPoll = s.iPoll := rfl
@[simp] theorem State.withSP_params (v : Word) : (s.withSP v).params = s.params := rfl
@[simp] theorem State.withSP_bus (v : Word) : (s.withSP v).bus = s.bus := rfl
@[simp] theorem State.withSP_cost (v : Word) : (s.withSP v).cost = s.cost := rfl

@[simp] theorem State.withD_c (v : Word) : (s.withD v).c = s.c := rfl
@[simp] theorem State.withD_x (v : Word) : (s.withD v).x = s.x := rfl
@[simp] theorem State.withD_y (v : Word) : (s.withD v).y = s.y := rfl
@[simp] theorem State.withD_sp (v : Word) : (s.withD v).sp = s.sp := rfl
@[simp] theorem State.withD_d (v : Word) : (s.withD v).d = v := rfl
@[simp] theorem State.withD_db (v : Word) : (s.withD v).db = s.db := rfl
@[simp] theorem State.withD_pb (v : Word) : (s.withD v).pb = s.pb := rfl
@[simp] theorem State.withD_pc (v : Word) : (s.withD v).pc = s.pc := rfl
@[simp] theorem State.withD_p (v : Word) : (s.withD v).p = s.p := rfl
@[simp] theorem State.withD_e (v : Word) : (s.withD v).e = s.e := rfl
@[simp] theorem State.withD_run (v : Word) : (s.withD v).run = s.run := rfl
@[simp] theorem State.withD_nmiPending (v : Word) : (s.withD v).nmiPending = s.nmiPending := rfl
@[simp] theorem State.withD_irqLine (v : Word) : (s.withD v).irqLine = s.irqLine := rfl
@[simp] theorem State.withD_resetPending (v : Word) : (s.withD v).resetPending = s.resetPending := rfl
@[simp] theorem State.withD_resetKind (v : Word) : (s.withD v).resetKind = s.resetKind := rfl
@[simp] theorem State.withD_iPoll (v : Word) : (s.withD v).iPoll = s.iPoll := rfl
@[simp] theorem State.withD_params (v : Word) : (s.withD v).params = s.params := rfl
@[simp] theorem State.withD_bus (v : Word) : (s.withD v).bus = s.bus := rfl
@[simp] theorem State.withD_cost (v : Word) : (s.withD v).cost = s.cost := rfl

@[simp] theorem State.withDB_c (v : Byte) : (s.withDB v).c = s.c := rfl
@[simp] theorem State.withDB_x (v : Byte) : (s.withDB v).x = s.x := rfl
@[simp] theorem State.withDB_y (v : Byte) : (s.withDB v).y = s.y := rfl
@[simp] theorem State.withDB_sp (v : Byte) : (s.withDB v).sp = s.sp := rfl
@[simp] theorem State.withDB_d (v : Byte) : (s.withDB v).d = s.d := rfl
@[simp] theorem State.withDB_db (v : Byte) : (s.withDB v).db = v := rfl
@[simp] theorem State.withDB_pb (v : Byte) : (s.withDB v).pb = s.pb := rfl
@[simp] theorem State.withDB_pc (v : Byte) : (s.withDB v).pc = s.pc := rfl
@[simp] theorem State.withDB_p (v : Byte) : (s.withDB v).p = s.p := rfl
@[simp] theorem State.withDB_e (v : Byte) : (s.withDB v).e = s.e := rfl
@[simp] theorem State.withDB_run (v : Byte) : (s.withDB v).run = s.run := rfl
@[simp] theorem State.withDB_nmiPending (v : Byte) : (s.withDB v).nmiPending = s.nmiPending := rfl
@[simp] theorem State.withDB_irqLine (v : Byte) : (s.withDB v).irqLine = s.irqLine := rfl
@[simp] theorem State.withDB_resetPending (v : Byte) : (s.withDB v).resetPending = s.resetPending := rfl
@[simp] theorem State.withDB_resetKind (v : Byte) : (s.withDB v).resetKind = s.resetKind := rfl
@[simp] theorem State.withDB_iPoll (v : Byte) : (s.withDB v).iPoll = s.iPoll := rfl
@[simp] theorem State.withDB_params (v : Byte) : (s.withDB v).params = s.params := rfl
@[simp] theorem State.withDB_bus (v : Byte) : (s.withDB v).bus = s.bus := rfl
@[simp] theorem State.withDB_cost (v : Byte) : (s.withDB v).cost = s.cost := rfl

@[simp] theorem State.withPB_c (v : Byte) : (s.withPB v).c = s.c := rfl
@[simp] theorem State.withPB_x (v : Byte) : (s.withPB v).x = s.x := rfl
@[simp] theorem State.withPB_y (v : Byte) : (s.withPB v).y = s.y := rfl
@[simp] theorem State.withPB_sp (v : Byte) : (s.withPB v).sp = s.sp := rfl
@[simp] theorem State.withPB_d (v : Byte) : (s.withPB v).d = s.d := rfl
@[simp] theorem State.withPB_db (v : Byte) : (s.withPB v).db = s.db := rfl
@[simp] theorem State.withPB_pb (v : Byte) : (s.withPB v).pb = v := rfl
@[simp] theorem State.withPB_pc (v : Byte) : (s.withPB v).pc = s.pc := rfl
@[simp] theorem State.withPB_p (v : Byte) : (s.withPB v).p = s.p := rfl
@[simp] theorem State.withPB_e (v : Byte) : (s.withPB v).e = s.e := rfl
@[simp] theorem State.withPB_run (v : Byte) : (s.withPB v).run = s.run := rfl
@[simp] theorem State.withPB_nmiPending (v : Byte) : (s.withPB v).nmiPending = s.nmiPending := rfl
@[simp] theorem State.withPB_irqLine (v : Byte) : (s.withPB v).irqLine = s.irqLine := rfl
@[simp] theorem State.withPB_resetPending (v : Byte) : (s.withPB v).resetPending = s.resetPending := rfl
@[simp] theorem State.withPB_resetKind (v : Byte) : (s.withPB v).resetKind = s.resetKind := rfl
@[simp] theorem State.withPB_iPoll (v : Byte) : (s.withPB v).iPoll = s.iPoll := rfl
@[simp] theorem State.withPB_params (v : Byte) : (s.withPB v).params = s.params := rfl
@[simp] theorem State.withPB_bus (v : Byte) : (s.withPB v).bus = s.bus := rfl
@[simp] theorem State.withPB_cost (v : Byte) : (s.withPB v).cost = s.cost := rfl

@[simp] theorem State.withPC_c (v : Word) : (s.withPC v).c = s.c := rfl
@[simp] theorem State.withPC_x (v : Word) : (s.withPC v).x = s.x := rfl
@[simp] theorem State.withPC_y (v : Word) : (s.withPC v).y = s.y := rfl
@[simp] theorem State.withPC_sp (v : Word) : (s.withPC v).sp = s.sp := rfl
@[simp] theorem State.withPC_d (v : Word) : (s.withPC v).d = s.d := rfl
@[simp] theorem State.withPC_db (v : Word) : (s.withPC v).db = s.db := rfl
@[simp] theorem State.withPC_pb (v : Word) : (s.withPC v).pb = s.pb := rfl
@[simp] theorem State.withPC_pc (v : Word) : (s.withPC v).pc = v := rfl
@[simp] theorem State.withPC_p (v : Word) : (s.withPC v).p = s.p := rfl
@[simp] theorem State.withPC_e (v : Word) : (s.withPC v).e = s.e := rfl
@[simp] theorem State.withPC_run (v : Word) : (s.withPC v).run = s.run := rfl
@[simp] theorem State.withPC_nmiPending (v : Word) : (s.withPC v).nmiPending = s.nmiPending := rfl
@[simp] theorem State.withPC_irqLine (v : Word) : (s.withPC v).irqLine = s.irqLine := rfl
@[simp] theorem State.withPC_resetPending (v : Word) : (s.withPC v).resetPending = s.resetPending := rfl
@[simp] theorem State.withPC_resetKind (v : Word) : (s.withPC v).resetKind = s.resetKind := rfl
@[simp] theorem State.withPC_iPoll (v : Word) : (s.withPC v).iPoll = s.iPoll := rfl
@[simp] theorem State.withPC_params (v : Word) : (s.withPC v).params = s.params := rfl
@[simp] theorem State.withPC_bus (v : Word) : (s.withPC v).bus = s.bus := rfl
@[simp] theorem State.withPC_cost (v : Word) : (s.withPC v).cost = s.cost := rfl

@[simp] theorem State.withP_c (v : Flags) : (s.withP v).c = s.c := rfl
@[simp] theorem State.withP_x (v : Flags) : (s.withP v).x = s.x := rfl
@[simp] theorem State.withP_y (v : Flags) : (s.withP v).y = s.y := rfl
@[simp] theorem State.withP_sp (v : Flags) : (s.withP v).sp = s.sp := rfl
@[simp] theorem State.withP_d (v : Flags) : (s.withP v).d = s.d := rfl
@[simp] theorem State.withP_db (v : Flags) : (s.withP v).db = s.db := rfl
@[simp] theorem State.withP_pb (v : Flags) : (s.withP v).pb = s.pb := rfl
@[simp] theorem State.withP_pc (v : Flags) : (s.withP v).pc = s.pc := rfl
@[simp] theorem State.withP_p (v : Flags) : (s.withP v).p = v := rfl
@[simp] theorem State.withP_e (v : Flags) : (s.withP v).e = s.e := rfl
@[simp] theorem State.withP_run (v : Flags) : (s.withP v).run = s.run := rfl
@[simp] theorem State.withP_nmiPending (v : Flags) : (s.withP v).nmiPending = s.nmiPending := rfl
@[simp] theorem State.withP_irqLine (v : Flags) : (s.withP v).irqLine = s.irqLine := rfl
@[simp] theorem State.withP_resetPending (v : Flags) : (s.withP v).resetPending = s.resetPending := rfl
@[simp] theorem State.withP_resetKind (v : Flags) : (s.withP v).resetKind = s.resetKind := rfl
@[simp] theorem State.withP_iPoll (v : Flags) : (s.withP v).iPoll = s.iPoll := rfl
@[simp] theorem State.withP_params (v : Flags) : (s.withP v).params = s.params := rfl
@[simp] theorem State.withP_bus (v : Flags) : (s.withP v).bus = s.bus := rfl
@[simp] theorem State.withP_cost (v : Flags) : (s.withP v).cost = s.cost := rfl

@[simp] theorem State.withE_c (v : Bool) : (s.withE v).c = s.c := rfl
@[simp] theorem State.withE_x (v : Bool) : (s.withE v).x = s.x := rfl
@[simp] theorem State.withE_y (v : Bool) : (s.withE v).y = s.y := rfl
@[simp] theorem State.withE_sp (v : Bool) : (s.withE v).sp = s.sp := rfl
@[simp] theorem State.withE_d (v : Bool) : (s.withE v).d = s.d := rfl
@[simp] theorem State.withE_db (v : Bool) : (s.withE v).db = s.db := rfl
@[simp] theorem State.withE_pb (v : Bool) : (s.withE v).pb = s.pb := rfl
@[simp] theorem State.withE_pc (v : Bool) : (s.withE v).pc = s.pc := rfl
@[simp] theorem State.withE_p (v : Bool) : (s.withE v).p = s.p := rfl
@[simp] theorem State.withE_e (v : Bool) : (s.withE v).e = v := rfl
@[simp] theorem State.withE_run (v : Bool) : (s.withE v).run = s.run := rfl
@[simp] theorem State.withE_nmiPending (v : Bool) : (s.withE v).nmiPending = s.nmiPending := rfl
@[simp] theorem State.withE_irqLine (v : Bool) : (s.withE v).irqLine = s.irqLine := rfl
@[simp] theorem State.withE_resetPending (v : Bool) : (s.withE v).resetPending = s.resetPending := rfl
@[simp] theorem State.withE_resetKind (v : Bool) : (s.withE v).resetKind = s.resetKind := rfl
@[simp] theorem State.withE_iPoll (v : Bool) : (s.withE v).iPoll = s.iPoll := rfl
@[simp] theorem State.withE_params (v : Bool) : (s.withE v).params = s.params := rfl
@[simp] theorem State.withE_bus (v : Bool) : (s.withE v).bus = s.bus := rfl
@[simp] theorem State.withE_cost (v : Bool) : (s.withE v).cost = s.cost := rfl

@[simp] theorem State.withRun_c (v : RunState) : (s.withRun v).c = s.c := rfl
@[simp] theorem State.withRun_x (v : RunState) : (s.withRun v).x = s.x := rfl
@[simp] theorem State.withRun_y (v : RunState) : (s.withRun v).y = s.y := rfl
@[simp] theorem State.withRun_sp (v : RunState) : (s.withRun v).sp = s.sp := rfl
@[simp] theorem State.withRun_d (v : RunState) : (s.withRun v).d = s.d := rfl
@[simp] theorem State.withRun_db (v : RunState) : (s.withRun v).db = s.db := rfl
@[simp] theorem State.withRun_pb (v : RunState) : (s.withRun v).pb = s.pb := rfl
@[simp] theorem State.withRun_pc (v : RunState) : (s.withRun v).pc = s.pc := rfl
@[simp] theorem State.withRun_p (v : RunState) : (s.withRun v).p = s.p := rfl
@[simp] theorem State.withRun_e (v : RunState) : (s.withRun v).e = s.e := rfl
@[simp] theorem State.withRun_run (v : RunState) : (s.withRun v).run = v := rfl
@[simp] theorem State.withRun_nmiPending (v : RunState) : (s.withRun v).nmiPending = s.nmiPending := rfl
@[simp] theorem State.withRun_irqLine (v : RunState) : (s.withRun v).irqLine = s.irqLine := rfl
@[simp] theorem State.withRun_resetPending (v : RunState) : (s.withRun v).resetPending = s.resetPending := rfl
@[simp] theorem State.withRun_resetKind (v : RunState) : (s.withRun v).resetKind = s.resetKind := rfl
@[simp] theorem State.withRun_iPoll (v : RunState) : (s.withRun v).iPoll = s.iPoll := rfl
@[simp] theorem State.withRun_params (v : RunState) : (s.withRun v).params = s.params := rfl
@[simp] theorem State.withRun_bus (v : RunState) : (s.withRun v).bus = s.bus := rfl
@[simp] theorem State.withRun_cost (v : RunState) : (s.withRun v).cost = s.cost := rfl

@[simp] theorem State.withNmiPending_c (v : Bool) : (s.withNmiPending v).c = s.c := rfl
@[simp] theorem State.withNmiPending_x (v : Bool) : (s.withNmiPending v).x = s.x := rfl
@[simp] theorem State.withNmiPending_y (v : Bool) : (s.withNmiPending v).y = s.y := rfl
@[simp] theorem State.withNmiPending_sp (v : Bool) : (s.withNmiPending v).sp = s.sp := rfl
@[simp] theorem State.withNmiPending_d (v : Bool) : (s.withNmiPending v).d = s.d := rfl
@[simp] theorem State.withNmiPending_db (v : Bool) : (s.withNmiPending v).db = s.db := rfl
@[simp] theorem State.withNmiPending_pb (v : Bool) : (s.withNmiPending v).pb = s.pb := rfl
@[simp] theorem State.withNmiPending_pc (v : Bool) : (s.withNmiPending v).pc = s.pc := rfl
@[simp] theorem State.withNmiPending_p (v : Bool) : (s.withNmiPending v).p = s.p := rfl
@[simp] theorem State.withNmiPending_e (v : Bool) : (s.withNmiPending v).e = s.e := rfl
@[simp] theorem State.withNmiPending_run (v : Bool) : (s.withNmiPending v).run = s.run := rfl
@[simp] theorem State.withNmiPending_nmiPending (v : Bool) : (s.withNmiPending v).nmiPending = v := rfl
@[simp] theorem State.withNmiPending_irqLine (v : Bool) : (s.withNmiPending v).irqLine = s.irqLine := rfl
@[simp] theorem State.withNmiPending_resetPending (v : Bool) : (s.withNmiPending v).resetPending = s.resetPending := rfl
@[simp] theorem State.withNmiPending_resetKind (v : Bool) : (s.withNmiPending v).resetKind = s.resetKind := rfl
@[simp] theorem State.withNmiPending_iPoll (v : Bool) : (s.withNmiPending v).iPoll = s.iPoll := rfl
@[simp] theorem State.withNmiPending_params (v : Bool) : (s.withNmiPending v).params = s.params := rfl
@[simp] theorem State.withNmiPending_bus (v : Bool) : (s.withNmiPending v).bus = s.bus := rfl
@[simp] theorem State.withNmiPending_cost (v : Bool) : (s.withNmiPending v).cost = s.cost := rfl

@[simp] theorem State.withIPoll_c (v : Bool) : (s.withIPoll v).c = s.c := rfl
@[simp] theorem State.withIPoll_x (v : Bool) : (s.withIPoll v).x = s.x := rfl
@[simp] theorem State.withIPoll_y (v : Bool) : (s.withIPoll v).y = s.y := rfl
@[simp] theorem State.withIPoll_sp (v : Bool) : (s.withIPoll v).sp = s.sp := rfl
@[simp] theorem State.withIPoll_d (v : Bool) : (s.withIPoll v).d = s.d := rfl
@[simp] theorem State.withIPoll_db (v : Bool) : (s.withIPoll v).db = s.db := rfl
@[simp] theorem State.withIPoll_pb (v : Bool) : (s.withIPoll v).pb = s.pb := rfl
@[simp] theorem State.withIPoll_pc (v : Bool) : (s.withIPoll v).pc = s.pc := rfl
@[simp] theorem State.withIPoll_p (v : Bool) : (s.withIPoll v).p = s.p := rfl
@[simp] theorem State.withIPoll_e (v : Bool) : (s.withIPoll v).e = s.e := rfl
@[simp] theorem State.withIPoll_run (v : Bool) : (s.withIPoll v).run = s.run := rfl
@[simp] theorem State.withIPoll_nmiPending (v : Bool) : (s.withIPoll v).nmiPending = s.nmiPending := rfl
@[simp] theorem State.withIPoll_irqLine (v : Bool) : (s.withIPoll v).irqLine = s.irqLine := rfl
@[simp] theorem State.withIPoll_resetPending (v : Bool) : (s.withIPoll v).resetPending = s.resetPending := rfl
@[simp] theorem State.withIPoll_resetKind (v : Bool) : (s.withIPoll v).resetKind = s.resetKind := rfl
@[simp] theorem State.withIPoll_iPoll (v : Bool) : (s.withIPoll v).iPoll = v := rfl
@[simp] theorem State.withIPoll_params (v : Bool) : (s.withIPoll v).params = s.params := rfl
@[simp] theorem State.withIPoll_bus (v : Bool) : (s.withIPoll v).bus = s.bus := rfl
@[simp] theorem State.withIPoll_cost (v : Bool) : (s.withIPoll v).cost = s.cost := rfl

@[simp] theorem State.withBus_c (v : Bus) : (s.withBus v).c = s.c := rfl
@[simp] theorem State.withBus_x (v : Bus) : (s.withBus v).x = s.x := rfl
@[simp] theorem State.withBus_y (v : Bus) : (s.withBus v).y = s.y := rfl
@[simp] theorem State.withBus_sp (v : Bus) : (s.withBus v).sp = s.sp := rfl
@[simp] theorem State.withBus_d (v : Bus) : (s.withBus v).d = s.d := rfl
@[simp] theorem State.withBus_db (v : Bus) : (s.withBus v).db = s.db := rfl
@[simp] theorem State.withBus_pb (v : Bus) : (s.withBus v).pb = s.pb := rfl
@[simp] theorem State.withBus_pc (v : Bus) : (s.withBus v).pc = s.pc := rfl
@[simp] theorem State.withBus_p (v : Bus) : (s.withBus v).p = s.p := rfl
@[simp] theorem State.withBus_e (v : Bus) : (s.withBus v).e = s.e := rfl
@[simp] theorem State.withBus_run (v : Bus) : (s.withBus v).run = s.run := rfl
@[simp] theorem State.withBus_nmiPending (v : Bus) : (s.withBus v).nmiPending = s.nmiPending := rfl
@[simp] theorem State.withBus_irqLine (v : Bus) : (s.withBus v).irqLine = s.irqLine := rfl
@[simp] theorem State.withBus_resetPending (v : Bus) : (s.withBus v).resetPending = s.resetPending := rfl
@[simp] theorem State.withBus_resetKind (v : Bus) : (s.withBus v).resetKind = s.resetKind := rfl
@[simp] theorem State.withBus_iPoll (v : Bus) : (s.withBus v).iPoll = s.iPoll := rfl
@[simp] theorem State.withBus_params (v : Bus) : (s.withBus v).params = s.params := rfl
@[simp] theorem State.withBus_bus (v : Bus) : (s.withBus v).bus = v := rfl
@[simp] theorem State.withBus_cost (v : Bus) : (s.withBus v).cost = s.cost := rfl

@[simp] theorem State.withCost_c (v : Nat) : (s.withCost v).c = s.c := rfl
@[simp] theorem State.withCost_x (v : Nat) : (s.withCost v).x = s.x := rfl
@[simp] theorem State.withCost_y (v : Nat) : (s.withCost v).y = s.y := rfl
@[simp] theorem State.withCost_sp (v : Nat) : (s.withCost v).sp = s.sp := rfl
@[simp] theorem State.withCost_d (v : Nat) : (s.withCost v).d = s.d := rfl
@[simp] theorem State.withCost_db (v : Nat) : (s.withCost v).db = s.db := rfl
@[simp] theorem State.withCost_pb (v : Nat) : (s.withCost v).pb = s.pb := rfl
@[simp] theorem State.withCost_pc (v : Nat) : (s.withCost v).pc = s.pc := rfl
@[simp] theorem State.withCost_p (v : Nat) : (s.withCost v).p = s.p := rfl
@[simp] theorem State.withCost_e (v : Nat) : (s.withCost v).e = s.e := rfl
@[simp] theorem State.withCost_run (v : Nat) : (s.withCost v).run = s.run := rfl
@[simp] theorem State.withCost_nmiPending (v : Nat) : (s.withCost v).nmiPending = s.nmiPending := rfl
@[simp] theorem State.withCost_irqLine (v : Nat) : (s.withCost v).irqLine = s.irqLine := rfl
@[simp] theorem State.withCost_resetPending (v : Nat) : (s.withCost v).resetPending = s.resetPending := rfl
@[simp] theorem State.withCost_resetKind (v : Nat) : (s.withCost v).resetKind = s.resetKind := rfl
@[simp] theorem State.withCost_iPoll (v : Nat) : (s.withCost v).iPoll = s.iPoll := rfl
@[simp] theorem State.withCost_params (v : Nat) : (s.withCost v).params = s.params := rfl
@[simp] theorem State.withCost_bus (v : Nat) : (s.withCost v).bus = s.bus := rfl
@[simp] theorem State.withCost_cost (v : Nat) : (s.withCost v).cost = v := rfl

end Sys2Proof.Machine
end

