-- ==== Sys2Proof/Laws/Memory.lean ====
section
/-! SUPPORT. The laws of memory and of the bus port: a byte written reads back, every other byte is left alone, the
canonical form is kept, reads change no memory. -/

namespace Sys2Proof.Machine

/-! Memory. -/

theorem Memory.wfFrom_mono : ∀ (m : Memory) (k j : Nat), k ≤ j → Memory.wfFrom j m = true → Memory.wfFrom k m = true
  | [], _, _, _, _ => rfl
  | (a, w) :: m, k, j, hkj, h => by
    simp only [Memory.wfFrom, Bool.and_eq_true, decide_eq_true_eq] at h ⊢
    exact ⟨⟨⟨by omega, h.1.1.2⟩, h.1.2⟩, h.2⟩

/-- An address below the first listed one reads as unlisted. -/
theorem Memory.read_below : ∀ (m : Memory) (k a : Nat), Memory.wfFrom k m = true → a < k → m.read a = Config.unlistedByte
  | [], _, _, _, _ => rfl
  | (b, w) :: m, k, a, h, hak => by
    simp only [Memory.wfFrom, Bool.and_eq_true, decide_eq_true_eq] at h
    have hb : b ≠ a := by omega
    simp only [Memory.read, if_neg hb]
    exact Memory.read_below m (b + 1) a h.2 (by omega)

theorem Memory.read_write_self : ∀ (m : Memory) (k a : Nat) (v : Byte), Memory.wfFrom k m = true →
    (m.write a v).read a = v
  | [], _, a, v, _ => by
    by_cases hv : v = Config.unlistedByte <;> simp [Memory.write, Memory.read, hv]
  | (b, w) :: m, k, a, v, h => by
    simp only [Memory.wfFrom, Bool.and_eq_true, decide_eq_true_eq] at h
    by_cases hab : a < b
    · by_cases hv : v = Config.unlistedByte
      · have hb : b ≠ a := by omega
        simp only [Memory.write, if_pos hab, if_pos hv, Memory.read, if_neg hb]
        rw [Memory.read_below m (b + 1) a h.2 (by omega), hv]
      · simp [Memory.write, hab, hv, Memory.read]
    · by_cases hbe : a = b
      · by_cases hv : v = Config.unlistedByte
        · simp only [Memory.write, if_neg hab, if_pos hbe, if_pos hv]
          rw [Memory.read_below m (b + 1) a h.2 (by omega), hv]
        · simp [Memory.write, hbe, hv, Memory.read]
      · have hb : b ≠ a := fun e => hbe e.symm
        simp only [Memory.write, if_neg hab, if_neg hbe, Memory.read, if_neg hb]
        exact Memory.read_write_self m (b + 1) a v h.2

theorem Memory.read_write_other : ∀ (m : Memory) (a c : Nat) (v : Byte), c ≠ a → (m.write a v).read c = m.read c
  | [], a, c, v, h => by
    by_cases hv : v = Config.unlistedByte <;> simp [Memory.write, Memory.read, hv, h.symm]
  | (b, w) :: m, a, c, v, h => by
    by_cases hab : a < b
    · by_cases hv : v = Config.unlistedByte <;> simp [Memory.write, hab, hv, Memory.read, h.symm]
    · by_cases hbe : a = b
      · subst hbe
        by_cases hv : v = Config.unlistedByte <;> simp [Memory.write, hv, Memory.read, h.symm]
      · simp only [Memory.write, if_neg hab, if_neg hbe, Memory.read]
        rw [Memory.read_write_other m a c v h]

theorem Memory.wfFrom_write : ∀ (m : Memory) (k a : Nat) (v : Byte), Memory.wfFrom k m = true → k ≤ a → a < 16777216 →
    Memory.wfFrom k (m.write a v) = true
  | [], k, a, v, _, hka, ha => by
    by_cases hv : v = Config.unlistedByte <;> simp [Memory.write, Memory.wfFrom, hv, hka, ha]
  | (b, w) :: m, k, a, v, h, hka, ha => by
    have h' := h
    simp only [Memory.wfFrom, Bool.and_eq_true, decide_eq_true_eq] at h'
    by_cases hab : a < b
    · by_cases hv : v = Config.unlistedByte
      · simpa only [Memory.write, if_pos hab, if_pos hv] using h
      · simp only [Memory.write, if_pos hab, if_neg hv, Memory.wfFrom, Bool.and_eq_true, decide_eq_true_eq]
        exact ⟨⟨⟨hka, ha⟩, by simpa using hv⟩, ⟨⟨⟨hab, h'.1.1.2⟩, h'.1.2⟩, h'.2⟩⟩
    · by_cases hbe : a = b
      · by_cases hv : v = Config.unlistedByte
        · simp only [Memory.write, if_neg hab, if_pos hbe, if_pos hv]
          exact Memory.wfFrom_mono m k (b + 1) (by omega) h'.2
        · simp only [Memory.write, if_neg hab, if_pos hbe, if_neg hv, Memory.wfFrom, Bool.and_eq_true,
            decide_eq_true_eq]
          exact ⟨⟨⟨h'.1.1.1, h'.1.1.2⟩, by simpa using hv⟩, h'.2⟩
      · simp only [Memory.write, if_neg hab, if_neg hbe, Memory.wfFrom, Bool.and_eq_true, decide_eq_true_eq]
        exact ⟨⟨⟨h'.1.1.1, h'.1.1.2⟩, h'.1.2⟩, Memory.wfFrom_write m (b + 1) a v h'.2 (by omega) ha⟩

/-- A write at a 24-bit address keeps the canonical form. -/
theorem Memory.wf_write (m : Memory) (a : Addr) (v : Byte) (h : m.wf = true) : (m.write a.toNat v).wf = true :=
  Memory.wfFrom_write m 0 a.toNat v h (Nat.zero_le _) a.isLt

theorem Memory.read_write_same (m : Memory) (a : Nat) (v : Byte) (h : m.wf = true) : (m.write a v).read a = v :=
  Memory.read_write_self m 0 a v h

/-- Bytes put in by another agent keep the canonical form. -/
theorem agentCells_wf (rs : List Region) : ∀ (cs : List (Addr × Byte)) (m : Memory), m.wf = true →
    (agentCells rs cs m).wf = true
  | [], _, h => h
  | (a, v) :: cs, m, h => by
    unfold agentCells
    apply agentCells_wf rs cs
    split
    · exact Memory.wf_write m a v h
    · exact h

/-! Addresses. -/

theorem addr_ne_iff (a c : Addr) : a ≠ c ↔ a.toNat ≠ c.toNat := by
  rw [Ne, BitVec.toNat_eq]

theorem AddrStep.next_ne (st : AddrStep) (a : Addr) : st.next a ≠ a := by
  cases st
  · simp only [AddrStep.next]
    bv_omega
  · intro h
    have h1 : offOf (mkAddr (bankOf a) (offOf a + 1)) = offOf a := by
      simpa only [AddrStep.next] using congrArg offOf h
    have h2 : offOf (mkAddr (bankOf a) (offOf a + 1)) = offOf a + 1 := by
      apply BitVec.eq_of_getLsbD_eq
      intro i hi
      simp only [offOf, mkAddr, BitVec.getLsbD_extractLsb', BitVec.getLsbD_append]
      simp [hi]
    rw [h2] at h1
    bv_omega
  · intro h
    have h1 : lo (offOf (mkAddr (bankOf a) (pair (hi (offOf a)) (lo (offOf a) + 1)))) = lo (offOf a) := by
      simpa only [AddrStep.next] using congrArg (fun z => lo (offOf z)) h
    have h2 : lo (offOf (mkAddr (bankOf a) (pair (hi (offOf a)) (lo (offOf a) + 1)))) = lo (offOf a) + 1 := by
      apply BitVec.eq_of_getLsbD_eq
      intro i hi
      simp only [lo, pair, offOf, mkAddr, BitVec.getLsbD_extractLsb', BitVec.getLsbD_append]
      have : i < 16 := by omega
      simp [hi, this]
    rw [h2] at h1
    bv_omega

/-! The bus: reads change no memory and no region. -/

@[simp] theorem Bus.read8_mem (b : Bus) (a : Addr) : (b.read8 a).2.mem = b.mem := by
  unfold Bus.read8; split <;> rfl

@[simp] theorem Bus.read8_regions (b : Bus) (a : Addr) : (b.read8 a).2.regions = b.regions := by
  unfold Bus.read8; split <;> rfl

@[simp] theorem Bus.read8_kindAt (b : Bus) (a c : Addr) : (b.read8 a).2.kindAt c = b.kindAt c := by
  simp [Bus.kindAt]

@[simp] theorem Bus.read16_mem (b : Bus) (st : AddrStep) (a : Addr) : (b.read16 st a).2.mem = b.mem := by
  simp [Bus.read16]

@[simp] theorem Bus.read16_regions (b : Bus) (st : AddrStep) (a : Addr) : (b.read16 st a).2.regions = b.regions := by
  simp [Bus.read16]

@[simp] theorem Bus.read24_mem (b : Bus) (st : AddrStep) (a : Addr) : (b.read24 st a).2.mem = b.mem := by
  simp [Bus.read24]

@[simp] theorem Bus.read24_regions (b : Bus) (st : AddrStep) (a : Addr) : (b.read24 st a).2.regions = b.regions := by
  simp [Bus.read24]

@[simp] theorem Bus.readW_mem (b : Bus) (w : Width) (st : AddrStep) (a : Addr) : (b.readW w st a).2.mem = b.mem := by
  cases w <;> simp [Bus.readW]

@[simp] theorem Bus.readW_regions (b : Bus) (w : Width) (st : AddrStep) (a : Addr) :
    (b.readW w st a).2.regions = b.regions := by
  cases w <;> simp [Bus.readW]

/-- RAM and ROM answer the byte memory holds. -/
theorem Bus.read8_backed (b : Bus) (a : Addr) (h : b.kindAt a ≠ .device) : (b.read8 a).1 = b.mem.read a.toNat := by
  unfold Bus.read8
  cases hk : b.kindAt a
  · rfl
  · rfl
  · exact absurd hk h

/-- A 16-bit read of RAM or ROM is little-endian. -/
theorem Bus.read16_backed (b : Bus) (st : AddrStep) (a : Addr) (h : b.kindAt a ≠ .device)
    (h' : b.kindAt (st.next a) ≠ .device) :
    (b.read16 st a).1 = pair (b.mem.read (st.next a).toNat) (b.mem.read a.toNat) := by
  have h2 : (b.read8 a).2.kindAt (st.next a) ≠ .device := by simpa using h'
  simp only [Bus.read16, Bus.read8_backed b a h, Bus.read8_backed _ _ h2, Bus.read8_mem]

/-! The bus: writes. -/

@[simp] theorem Bus.write8_regions (b : Bus) (a : Addr) (v : Byte) : (b.write8 a v).regions = b.regions := by
  unfold Bus.write8; split <;> rfl

@[simp] theorem Bus.write8_kindAt (b : Bus) (a c : Addr) (v : Byte) : (b.write8 a v).kindAt c = b.kindAt c := by
  simp [Bus.kindAt]

/-- A write keeps memory in canonical form. -/
theorem Bus.write8_wf (b : Bus) (a : Addr) (v : Byte) (h : b.mem.wf = true) : (b.write8 a v).mem.wf = true := by
  unfold Bus.write8
  split
  · exact Memory.wf_write b.mem a v h
  · exact h
  · exact agentCells_wf _ _ _ h

/-- A byte written to RAM reads back. -/
theorem Bus.write8_same (b : Bus) (a : Addr) (v : Byte) (hk : b.kindAt a = .ram) (h : b.mem.wf = true) :
    (b.write8 a v).mem.read a.toNat = v := by
  simp only [Bus.write8, hk]
  exact Memory.read_write_same b.mem a.toNat v h

/-- A write to RAM or ROM leaves every other byte alone. -/
theorem Bus.write8_other (b : Bus) (a c : Addr) (v : Byte) (hk : b.kindAt a ≠ .device) (hc : c ≠ a) :
    (b.write8 a v).mem.read c.toNat = b.mem.read c.toNat := by
  unfold Bus.write8
  cases h : b.kindAt a
  · exact Memory.read_write_other b.mem a.toNat c.toNat v ((addr_ne_iff c a).1 hc)
  · rfl
  · exact absurd h hk

@[simp] theorem Bus.writeW_regions (b : Bus) (w : Width) (st : AddrStep) (a : Addr) (v : Word) :
    (b.writeW w st a v).regions = b.regions := by
  cases w <;> simp [Bus.writeW]

@[simp] theorem Bus.writeRmw_regions (b : Bus) (w : Width) (st : AddrStep) (a : Addr) (v : Word) :
    (b.writeRmw w st a v).regions = b.regions := by
  cases w <;> simp [Bus.writeRmw]

theorem Bus.writeW_wf (b : Bus) (w : Width) (st : AddrStep) (a : Addr) (v : Word) (h : b.mem.wf = true) :
    (b.writeW w st a v).mem.wf = true := by
  cases w
  · exact Bus.write8_wf _ _ _ h
  · exact Bus.write8_wf _ _ _ (Bus.write8_wf _ _ _ h)

theorem Bus.writeRmw_wf (b : Bus) (w : Width) (st : AddrStep) (a : Addr) (v : Word) (h : b.mem.wf = true) :
    (b.writeRmw w st a v).mem.wf = true := by
  cases w
  · exact Bus.write8_wf _ _ _ h
  · exact Bus.write8_wf _ _ _ (Bus.write8_wf _ _ _ h)

/-- The two orders of a store leave the same memory in RAM and ROM: R85 and R86 differ in the order of the accesses. -/
theorem Bus.writeW_other (b : Bus) (w : Width) (st : AddrStep) (a c : Addr) (v : Word) (hk : b.kindAt a ≠ .device)
    (hk' : w = .w16 → b.kindAt (st.next a) ≠ .device) (hc : c ≠ a) (hc' : w = .w16 → c ≠ st.next a) :
    (b.writeW w st a v).mem.read c.toNat = b.mem.read c.toNat := by
  cases w
  · exact Bus.write8_other _ _ _ _ hk hc
  · simp only [Bus.writeW]
    rw [Bus.write8_other _ _ _ _ (by simpa using hk' rfl) (hc' rfl), Bus.write8_other _ _ _ _ hk hc]

theorem Bus.writeRmw_other (b : Bus) (w : Width) (st : AddrStep) (a c : Addr) (v : Word) (hk : b.kindAt a ≠ .device)
    (hk' : w = .w16 → b.kindAt (st.next a) ≠ .device) (hc : c ≠ a) (hc' : w = .w16 → c ≠ st.next a) :
    (b.writeRmw w st a v).mem.read c.toNat = b.mem.read c.toNat := by
  cases w
  · exact Bus.write8_other _ _ _ _ hk hc
  · simp only [Bus.writeRmw]
    rw [Bus.write8_other _ _ _ _ (by simpa using hk) hc, Bus.write8_other _ _ _ _ (hk' rfl) (hc' rfl)]

end Sys2Proof.Machine
end

