-- ==== Sys2Proof/Laws/Ops.lean ====
section
/-! SUPPORT. One specification lemma per shared operation: each says, as one update of the state, everything the
operation does. The provers cite these and do not unfold the operations. -/

namespace Sys2Proof.Machine

/-! Bus accesses on the state change the bus alone. -/

theorem read8_eq (a : Addr) (s : State) : read8 a s = ((s.bus.read8 a).1, { s with bus := (s.bus.read8 a).2 }) := rfl

theorem read16_eq (st : AddrStep) (a : Addr) (s : State) :
    read16 st a s = ((s.bus.read16 st a).1, { s with bus := (s.bus.read16 st a).2 }) := rfl

theorem read24_eq (st : AddrStep) (a : Addr) (s : State) :
    read24 st a s = ((s.bus.read24 st a).1, { s with bus := (s.bus.read24 st a).2 }) := rfl

theorem memRead_eq (w : Width) (ea : EA) (s : State) :
    memRead w ea s = ((s.bus.readW w ea.step ea.addr).1, { s with bus := (s.bus.readW w ea.step ea.addr).2 }) := rfl

theorem write8_eq (a : Addr) (v : Byte) (s : State) : write8 a v s = { s with bus := s.bus.write8 a v } := rfl

theorem memWrite_eq (w : Width) (ea : EA) (v : Word) (s : State) :
    memWrite w ea v s = { s with bus := s.bus.writeW w ea.step ea.addr v } := rfl

theorem memWriteRmw_eq (w : Width) (ea : EA) (v : Word) (s : State) :
    memWriteRmw w ea v s = { s with bus := s.bus.writeRmw w ea.step ea.addr v } := rfl

/-- What an operation that only reads does to the state: the bus log and the devices may move, memory and everything else stay. -/
structure OnlyReads (s t : State) : Prop where
  state   : t = { s with bus := t.bus }
  memory  : t.bus.mem = s.bus.mem
  regions : t.bus.regions = s.bus.regions

theorem OnlyReads.refl (s : State) : OnlyReads s s := ⟨rfl, rfl, rfl⟩

theorem OnlyReads.trans {s t u : State} (h : OnlyReads s t) (h' : OnlyReads t u) : OnlyReads s u := by
  refine ⟨?_, h'.memory.trans h.memory, h'.regions.trans h.regions⟩
  have e := h'.state
  rw [h.state] at e
  simpa using e

theorem OnlyReads.peek {s t : State} (h : OnlyReads s t) (a : Addr) : t.peek a = s.peek a := by
  simp only [State.peek, h.memory]

theorem OnlyReads.kindAt {s t : State} (h : OnlyReads s t) (a : Addr) : t.bus.kindAt a = s.bus.kindAt a := by
  simp only [Bus.kindAt, h.regions]

theorem read8_onlyReads (a : Addr) (s : State) : OnlyReads s (read8 a s).2 := ⟨rfl, by simp [read8], by simp [read8]⟩

theorem read16_onlyReads (st : AddrStep) (a : Addr) (s : State) : OnlyReads s (read16 st a s).2 :=
  ⟨rfl, by simp [read16], by simp [read16]⟩

theorem read24_onlyReads (st : AddrStep) (a : Addr) (s : State) : OnlyReads s (read24 st a s).2 :=
  ⟨rfl, by simp [read24], by simp [read24]⟩

theorem memRead_onlyReads (w : Width) (ea : EA) (s : State) : OnlyReads s (memRead w ea s).2 :=
  ⟨rfl, by simp [memRead], by simp [memRead]⟩

/-! Every addressing mode only reads. -/

theorem eaDp_onlyReads (d : Byte) (s : State) : OnlyReads s (eaDp d s).2 := OnlyReads.refl s
theorem eaDpX_onlyReads (d : Byte) (s : State) : OnlyReads s (eaDpX d s).2 := OnlyReads.refl s
theorem eaDpY_onlyReads (d : Byte) (s : State) : OnlyReads s (eaDpY d s).2 := OnlyReads.refl s
theorem eaAbs_onlyReads (a : Word) (s : State) : OnlyReads s (eaAbs a s).2 := OnlyReads.refl s
theorem eaAbsX_onlyReads (a : Word) (s : State) : OnlyReads s (eaAbsX a s).2 := OnlyReads.refl s
theorem eaAbsY_onlyReads (a : Word) (s : State) : OnlyReads s (eaAbsY a s).2 := OnlyReads.refl s
theorem eaAbsL_onlyReads (al : Addr) (s : State) : OnlyReads s (eaAbsL al s).2 := OnlyReads.refl s
theorem eaAbsLX_onlyReads (al : Addr) (s : State) : OnlyReads s (eaAbsLX al s).2 := OnlyReads.refl s
theorem eaSr_onlyReads (n : Byte) (s : State) : OnlyReads s (eaSr n s).2 := OnlyReads.refl s
theorem eaDpInd_onlyReads (d : Byte) (s : State) : OnlyReads s (eaDpInd d s).2 := read16_onlyReads _ _ s
theorem eaDpIndX_onlyReads (d : Byte) (s : State) : OnlyReads s (eaDpIndX d s).2 := read16_onlyReads _ _ s
theorem eaDpIndY_onlyReads (d : Byte) (s : State) : OnlyReads s (eaDpIndY d s).2 := read16_onlyReads _ _ s
theorem eaDpIndL_onlyReads (op d : Byte) (s : State) : OnlyReads s (eaDpIndL op d s).2 := read24_onlyReads _ _ s
theorem eaDpIndLY_onlyReads (op d : Byte) (s : State) : OnlyReads s (eaDpIndLY op d s).2 := read24_onlyReads _ _ s
theorem eaSrIndY_onlyReads (n : Byte) (s : State) : OnlyReads s (eaSrIndY n s).2 := read16_onlyReads _ _ s

theorem immOperand_onlyReads (w : State → Width) (v : Imm) (s : State) : OnlyReads s (immOperand w v s).2 :=
  OnlyReads.refl s

/-- A memory operand only reads when its addressing mode does. -/
theorem memOperand_onlyReads (w : State → Width) (ea : State → EA × State) (s : State) (h : OnlyReads s (ea s).2) :
    OnlyReads s (memOperand w ea s).2 :=
  h.trans (memRead_onlyReads _ _ _)

/-! The stack. -/

theorem push8_eq (lin : Bool) (v : Byte) (s : State) :
    push8 lin v s = { s with bus := s.bus.write8 (bank0 s.sp) v, sp := stackDown s.e lin s.sp } := rfl

theorem push16_eq (lin : Bool) (v : Word) (s : State) :
    push16 lin v s =
      { s with
        bus := (s.bus.write8 (bank0 s.sp) (hi v)).write8 (bank0 (stackDown s.e lin s.sp)) (lo v)
        sp := stackDown s.e lin (stackDown s.e lin s.sp) } := rfl

theorem pull8_eq (lin : Bool) (s : State) :
    pull8 lin s =
      ((s.bus.read8 (bank0 (stackUp s.e lin s.sp))).1,
       { s with bus := (s.bus.read8 (bank0 (stackUp s.e lin s.sp))).2, sp := stackUp s.e lin s.sp }) := rfl

/-- A pull moves S and reads: memory stays. -/
theorem pull8_mem (lin : Bool) (s : State) : (pull8 lin s).2.bus.mem = s.bus.mem := by simp [pull8, read8]

theorem pull16_mem (lin : Bool) (s : State) : (pull16 lin s).2.bus.mem = s.bus.mem := by simp [pull16, pull8, read8]

theorem push8_regions (lin : Bool) (v : Byte) (s : State) : (push8 lin v s).bus.regions = s.bus.regions := by
  simp [push8, write8]

theorem push8_wf (lin : Bool) (v : Byte) (s : State) (h : s.bus.mem.wf = true) : (push8 lin v s).bus.mem.wf = true :=
  Bus.write8_wf _ _ _ h

theorem push16_wf (lin : Bool) (v : Word) (s : State) (h : s.bus.mem.wf = true) : (push16 lin v s).bus.mem.wf = true :=
  Bus.write8_wf _ _ _ (Bus.write8_wf _ _ _ h)

theorem pushFrame_wf (b : Bool) (s : State) (h : s.bus.mem.wf = true) : (pushFrame b s).bus.mem.wf = true := by
  unfold pushFrame
  split
  · exact push8_wf _ _ _ (push16_wf _ _ _ h)
  · exact push8_wf _ _ _ (push16_wf _ _ _ (push8_wf _ _ _ h))

/-- In emulation mode a push that is not linear leaves S in page 1, and a pull does (R88, R90). -/
theorem stackDown_page (v : Word) : hi (stackDown true false v) = hi v := by
  simp only [stackDown, Bool.not_false, Bool.and_self, if_true, hi, pair]
  apply BitVec.eq_of_getLsbD_eq
  intro i h
  simp only [BitVec.getLsbD_extractLsb', BitVec.getLsbD_append]
  have : ¬ 8 + i < 8 := by omega
  simp [this, h]

theorem stackUp_page (v : Word) : hi (stackUp true false v) = hi v := by
  simp only [stackUp, Bool.not_false, Bool.and_self, if_true, hi, pair]
  apply BitVec.eq_of_getLsbD_eq
  intro i h
  simp only [BitVec.getLsbD_extractLsb', BitVec.getLsbD_append]
  have : ¬ 8 + i < 8 := by omega
  simp [this, h]

/-! Bits. -/

@[simp] theorem lo_pair (h l : Byte) : lo (pair h l) = l := by
  simp only [lo, pair]
  apply BitVec.eq_of_getLsbD_eq
  intro i hi
  simp only [BitVec.getLsbD_extractLsb', BitVec.getLsbD_append]
  simp [hi]

@[simp] theorem hi_pair (h l : Byte) : hi (pair h l) = h := by
  simp only [hi, pair]
  apply BitVec.eq_of_getLsbD_eq
  intro i hi
  simp only [BitVec.getLsbD_extractLsb', BitVec.getLsbD_append]
  simp [hi]

@[simp] theorem pair_hi_lo (v : Word) : pair (hi v) (lo v) = v := by
  simp only [hi, lo, pair]
  apply BitVec.eq_of_getLsbD_eq
  intro i h
  rw [BitVec.getLsbD_append]
  by_cases h8 : i < 8
  · simp [h8]
  · have e : 8 + (i - 8) = i := by omega
    have : i - 8 < 8 := by omega
    simp [h8, e, this]

@[simp] theorem lo_zext16 (b : Byte) : lo (zext16 b) = b := by
  simp only [lo, zext16]
  apply BitVec.eq_of_getLsbD_eq
  intro i h
  have : i < 16 := by omega
  simp [h, this]

@[simp] theorem hi_zext16 (b : Byte) : hi (zext16 b) = 0x00 := by
  simp only [hi, zext16]
  apply BitVec.eq_of_getLsbD_eq
  intro i h
  simp

@[simp] theorem offOf_mkAddr (b : Byte) (o : Word) : offOf (mkAddr b o) = o := by
  simp only [offOf, mkAddr]
  apply BitVec.eq_of_getLsbD_eq
  intro i h
  simp only [BitVec.getLsbD_extractLsb', BitVec.getLsbD_append]
  simp [h]

@[simp] theorem bankOf_mkAddr (b : Byte) (o : Word) : bankOf (mkAddr b o) = b := by
  simp only [bankOf, mkAddr]
  apply BitVec.eq_of_getLsbD_eq
  intro i h
  simp only [BitVec.getLsbD_extractLsb', BitVec.getLsbD_append]
  simp [h]

/-- The 8-bit truncation has a zero high byte. -/
@[simp] theorem hi_trunc8 (v : Word) : hi (Width.w8.trunc v) = 0x00 := by simp [Width.trunc]

@[simp] theorem lo_trunc (w : Width) (v : Word) : lo (w.trunc v) = lo v := by cases w <;> simp [Width.trunc]

/-- An address of bank 0 is its offset. -/
theorem bank0_inj {a b : Word} : bank0 a = bank0 b ↔ a = b :=
  ⟨fun h => by simpa [bank0] using congrArg offOf h, congrArg bank0⟩

theorem toNat_lo (v : Word) : (lo v).toNat = v.toNat % 256 := by simp [lo, Nat.shiftRight_eq_div_pow]

theorem toNat_hi (v : Word) : (hi v).toNat = v.toNat / 256 := by
  have := v.isLt
  simp only [hi, BitVec.extractLsb'_toNat, Nat.shiftRight_eq_div_pow]
  omega

theorem toNat_pair (h l : Byte) : (pair h l).toNat = h.toNat * 256 + l.toNat := by
  have e : (h ++ l).toNat = h.toNat <<< 8 ||| l.toNat := BitVec.toNat_append h l
  rw [pair, e, ← Nat.shiftLeft_add_eq_or_of_lt l.isLt, Nat.shiftLeft_eq]

/-! S as a number (R88, R89): a page-1 access wraps in its page, any other in bank 0. -/

theorem stackDown_toNat (e lin : Bool) (v : Word) :
    (stackDown e lin v).toNat =
      if e && !lin then v.toNat / 256 * 256 + (v.toNat % 256 + 255) % 256 else (v.toNat + 65535) % 65536 := by
  have := v.isLt
  unfold stackDown
  split
  · rw [toNat_pair, toNat_hi, BitVec.toNat_sub, toNat_lo]; simp; omega
  · rw [BitVec.toNat_sub]; simp; omega

theorem stackUp_toNat (e lin : Bool) (v : Word) :
    (stackUp e lin v).toNat =
      if e && !lin then v.toNat / 256 * 256 + (v.toNat % 256 + 1) % 256 else (v.toNat + 1) % 65536 := by
  have := v.isLt
  unfold stackUp
  split
  · rw [toNat_pair, toNat_hi, BitVec.toNat_add, toNat_lo]; simp
  · rw [BitVec.toNat_add]; simp

/-- A pull goes back to the byte a push of the same kind wrote. -/
@[simp] theorem stackUp_stackDown (e lin : Bool) (v : Word) : stackUp e lin (stackDown e lin v) = v := by
  have := v.isLt
  rw [← BitVec.toNat_inj, stackUp_toNat, stackDown_toNat]
  split <;> omega

/-! The save state (R59): a restore keeps what is no state of the core. -/

@[simp] theorem save_restore (k : SaveState) (s : State) : (s.restore k).save = k := rfl
@[simp] theorem restore_save (s : State) : s.restore s.save = s := rfl
@[simp] theorem restore_bus (k : SaveState) (s : State) : (s.restore k).bus = s.bus := rfl
@[simp] theorem restore_irqLine (k : SaveState) (s : State) : (s.restore k).irqLine = s.irqLine := rfl
@[simp] theorem restore_params (k : SaveState) (s : State) : (s.restore k).params = s.params := rfl
@[simp] theorem restore_resetKind (k : SaveState) (s : State) : (s.restore k).resetKind = s.resetKind := rfl
@[simp] theorem restore_cost (k : SaveState) (s : State) : (s.restore k).cost = s.cost := rfl

/-! The shapes of instructions, over an operand that only reads. -/

/-- The accumulator operation as one update. -/
theorem accOp_eq (f : Width → Flags → Word → Word → Word × Flags) (operand : State → Word × State) (s : State)
    (h : OnlyReads s (operand s).2) :
    accOp f operand s =
      { s with
        c := (s.setAcc (f s.mw s.p s.acc (operand s).1).1).c
        p := (f s.mw s.p s.acc (operand s).1).2
        bus := (operand s).2.bus } := by
  have e := h.state
  simp only [accOp]
  rw [e]
  rfl

/-- The accumulator test as one update. -/
theorem accTest_eq (f : Width → Flags → Word → Word → Flags) (operand : State → Word × State) (s : State)
    (h : OnlyReads s (operand s).2) :
    accTest f operand s = { s with p := f s.mw s.p s.acc (operand s).1, bus := (operand s).2.bus } := by
  have e := h.state
  simp only [accTest]
  rw [e]
  rfl

/-- The index test as one update. -/
theorem indexTest_eq (reg : State → Word) (operand : State → Word × State) (s : State) (h : OnlyReads s (operand s).2) :
    indexTest reg operand s = { s with p := cmpOp s.xw s.p (reg s) (operand s).1, bus := (operand s).2.bus } := by
  have e := h.state
  simp only [indexTest]
  rw [e]
  rfl

/-- A load of X as one update. -/
theorem loadX_eq (operand : State → Word × State) (s : State) (h : OnlyReads s (operand s).2) :
    loadX operand s =
      { s with
        x := s.xw.trunc (operand s).1, p := setNZ s.xw (operand s).1 s.p, bus := (operand s).2.bus } := by
  have e := h.state
  simp only [loadX]
  rw [e]
  rfl

/-- A load of Y as one update. -/
theorem loadY_eq (operand : State → Word × State) (s : State) (h : OnlyReads s (operand s).2) :
    loadY operand s =
      { s with
        y := s.xw.trunc (operand s).1, p := setNZ s.xw (operand s).1 s.p, bus := (operand s).2.bus } := by
  have e := h.state
  simp only [loadY]
  rw [e]
  rfl

/-- A store as one update: the bus alone changes. -/
theorem store_eq (w : State → Width) (reg : State → Word) (ea : State → EA × State) (s : State)
    (h : OnlyReads s (ea s).2) :
    store w reg ea s =
      { s with bus := (ea s).2.bus.writeW (w s) (ea s).1.step (ea s).1.addr (reg s) } := by
  have e := h.state
  simp only [store]
  rw [e]
  rfl

/-- A read-modify-write of memory as one update. -/
theorem modifyMem_eq (f : Width → Flags → Word → Word × Flags) (ea : State → EA × State) (s : State)
    (h : OnlyReads s (ea s).2) :
    modifyMem f ea s =
      { s with
        p := (f s.mw s.p (memRead s.mw (ea s).1 (ea s).2).1).2
        bus := (memRead s.mw (ea s).1 (ea s).2).2.bus.writeRmw s.mw (ea s).1.step (ea s).1.addr
          (f s.mw s.p (memRead s.mw (ea s).1 (ea s).2).1).1 } := by
  rcases hr : ea s with ⟨a, t⟩
  rw [hr] at h
  have e : t = { s with bus := t.bus } := h.state
  generalize t.bus = b at e
  subst e
  simp only [modifyMem, hr, memRead_eq, memWriteRmw_eq]
  rfl

/-- The accumulator form as one update. -/
theorem modifyAcc_eq (f : Width → Flags → Word → Word × Flags) (s : State) :
    modifyAcc f s = { s with c := (s.setAcc (f s.mw s.p s.acc).1).c, p := (f s.mw s.p s.acc).2 } := rfl

/-- The entry sequence as one update over the pushed frame (R520). -/
theorem takeInterrupt_eq (k : Interrupt) (s : State) :
    takeInterrupt k s =
      let f := pushFrame k.bflag (s.withNmiPending (k.pendingAfter s.nmiPending))
      let v := f.bus.read16 .bank (bank0 (k.vector s.e))
      { f with p := { f.p with i := true, d := false }, iPoll := true, pb := 0x00, bus := v.2, pc := v.1
               run := .running } := by
  unfold takeInterrupt
  generalize pushFrame k.bflag (s.withNmiPending (k.pendingAfter s.nmiPending)) = f
  rfl

end Sys2Proof.Machine
end

