-- ==== Sys2Proof/Tests/Slice0.lean ====
section
/-! SUPPORT. The model's own tests: ill-formed instructions, the decoding of every opcode, one-step vectors of
95_test_vectors.md, and a witness for the hypotheses of every obligation that has some. Expected results come from the
opcode table and the vectors of the spec. -/

set_option Elab.async false

namespace Sys2Proof.Tests

open Machine Claim

/-! WellFormed: an immediate whose width is not the one its flag selects is refused, for m and for x. -/

theorem test_wf_refuses_wide_immediate_when_m_is_set : (Instr.ldaImm (.b16 0x1234)).wf ⟨true, false⟩ = false := by decide
theorem test_wf_refuses_narrow_immediate_when_m_is_clear : (Instr.adcImm (.b8 0x12)).wf ⟨false, true⟩ = false := by decide
theorem test_wf_refuses_wide_immediate_when_x_is_set : (Instr.ldxImm (.b16 0x1234)).wf ⟨false, true⟩ = false := by decide
theorem test_wf_refuses_narrow_immediate_when_x_is_clear : (Instr.cpyImm (.b8 0x12)).wf ⟨true, false⟩ = false := by decide
theorem test_wf_accepts_the_selected_width :
    (Instr.ldaImm (.b16 0x1234)).wf ⟨false, true⟩ = true ∧ (Instr.cpyImm (.b8 0x12)).wf ⟨false, true⟩ = true := by decide

/-! Decoding. Each word is written from `match`, `encoding` and `length` of its opcode-table row, with operand bytes
0x34, 0x12, 0x7E in that order. -/

/-- The bytes decode to the instruction and nothing is left over. -/
def reads (w : Widths) (bs : List Byte) (i : Instr) : Bool :=
  match decode w bs with
  | .ok (j, []) => j == i
  | _ => false

/-- A word decodes with 8-bit widths. -/
def reads8 (bs : List Byte) (i : Instr) : Bool := reads ⟨true, true⟩ bs i

theorem test_decode_row_0 :
    (reads8 [0x00, 0x34] (.brk 0x34) && reads8 [0x01, 0x34] (.oraDpIndX 0x34) &&
      reads8 [0x02, 0x34] (.cop 0x34) && reads8 [0x03, 0x34] (.oraSr 0x34) &&
      reads8 [0x04, 0x34] (.tsbDp 0x34) && reads8 [0x05, 0x34] (.oraDp 0x34) &&
      reads8 [0x06, 0x34] (.aslDp 0x34) && reads8 [0x07, 0x34] (.oraDpIndL 0x34) &&
      reads8 [0x08] .php && reads8 [0x09, 0x34] (.oraImm (.b8 0x34)) &&
      reads8 [0x0A] .aslAcc && reads8 [0x0B] .phd &&
      reads8 [0x0C, 0x34, 0x12] (.tsbAbs 0x1234) && reads8 [0x0D, 0x34, 0x12] (.oraAbs 0x1234) &&
      reads8 [0x0E, 0x34, 0x12] (.aslAbs 0x1234) && reads8 [0x0F, 0x34, 0x12, 0x7E] (.oraAbsL 0x7E1234)) = true := by decide +kernel

theorem test_decode_row_1 :
    (reads8 [0x10, 0x34] (.bpl 0x34) && reads8 [0x11, 0x34] (.oraDpIndY 0x34) &&
      reads8 [0x12, 0x34] (.oraDpInd 0x34) && reads8 [0x13, 0x34] (.oraSrIndY 0x34) &&
      reads8 [0x14, 0x34] (.trbDp 0x34) && reads8 [0x15, 0x34] (.oraDpX 0x34) &&
      reads8 [0x16, 0x34] (.aslDpX 0x34) && reads8 [0x17, 0x34] (.oraDpIndLY 0x34) &&
      reads8 [0x18] .clc && reads8 [0x19, 0x34, 0x12] (.oraAbsY 0x1234) &&
      reads8 [0x1A] .incAcc && reads8 [0x1B] .tcs &&
      reads8 [0x1C, 0x34, 0x12] (.trbAbs 0x1234) && reads8 [0x1D, 0x34, 0x12] (.oraAbsX 0x1234) &&
      reads8 [0x1E, 0x34, 0x12] (.aslAbsX 0x1234) && reads8 [0x1F, 0x34, 0x12, 0x7E] (.oraAbsLX 0x7E1234)) = true := by decide +kernel

theorem test_decode_row_2 :
    (reads8 [0x20, 0x34, 0x12] (.jsrAbs 0x1234) && reads8 [0x21, 0x34] (.andDpIndX 0x34) &&
      reads8 [0x22, 0x34, 0x12, 0x7E] (.jsl 0x7E1234) && reads8 [0x23, 0x34] (.andSr 0x34) &&
      reads8 [0x24, 0x34] (.bitDp 0x34) && reads8 [0x25, 0x34] (.andDp 0x34) &&
      reads8 [0x26, 0x34] (.rolDp 0x34) && reads8 [0x27, 0x34] (.andDpIndL 0x34) &&
      reads8 [0x28] .plp && reads8 [0x29, 0x34] (.andImm (.b8 0x34)) &&
      reads8 [0x2A] .rolAcc && reads8 [0x2B] .pld &&
      reads8 [0x2C, 0x34, 0x12] (.bitAbs 0x1234) && reads8 [0x2D, 0x34, 0x12] (.andAbs 0x1234) &&
      reads8 [0x2E, 0x34, 0x12] (.rolAbs 0x1234) && reads8 [0x2F, 0x34, 0x12, 0x7E] (.andAbsL 0x7E1234)) = true := by decide +kernel

theorem test_decode_row_3 :
    (reads8 [0x30, 0x34] (.bmi 0x34) && reads8 [0x31, 0x34] (.andDpIndY 0x34) &&
      reads8 [0x32, 0x34] (.andDpInd 0x34) && reads8 [0x33, 0x34] (.andSrIndY 0x34) &&
      reads8 [0x34, 0x34] (.bitDpX 0x34) && reads8 [0x35, 0x34] (.andDpX 0x34) &&
      reads8 [0x36, 0x34] (.rolDpX 0x34) && reads8 [0x37, 0x34] (.andDpIndLY 0x34) &&
      reads8 [0x38] .sec && reads8 [0x39, 0x34, 0x12] (.andAbsY 0x1234) &&
      reads8 [0x3A] .decAcc && reads8 [0x3B] .tsc &&
      reads8 [0x3C, 0x34, 0x12] (.bitAbsX 0x1234) && reads8 [0x3D, 0x34, 0x12] (.andAbsX 0x1234) &&
      reads8 [0x3E, 0x34, 0x12] (.rolAbsX 0x1234) && reads8 [0x3F, 0x34, 0x12, 0x7E] (.andAbsLX 0x7E1234)) = true := by decide +kernel

theorem test_decode_row_4 :
    (reads8 [0x40] .rti && reads8 [0x41, 0x34] (.eorDpIndX 0x34) &&
      reads8 [0x42, 0x34] (.wdm 0x34) && reads8 [0x43, 0x34] (.eorSr 0x34) &&
      reads8 [0x44, 0x34, 0x12] (.mvp 0x34 0x12) && reads8 [0x45, 0x34] (.eorDp 0x34) &&
      reads8 [0x46, 0x34] (.lsrDp 0x34) && reads8 [0x47, 0x34] (.eorDpIndL 0x34) &&
      reads8 [0x48] .pha && reads8 [0x49, 0x34] (.eorImm (.b8 0x34)) &&
      reads8 [0x4A] .lsrAcc && reads8 [0x4B] .phk &&
      reads8 [0x4C, 0x34, 0x12] (.jmpAbs 0x1234) && reads8 [0x4D, 0x34, 0x12] (.eorAbs 0x1234) &&
      reads8 [0x4E, 0x34, 0x12] (.lsrAbs 0x1234) && reads8 [0x4F, 0x34, 0x12, 0x7E] (.eorAbsL 0x7E1234)) = true := by decide +kernel

theorem test_decode_row_5 :
    (reads8 [0x50, 0x34] (.bvc 0x34) && reads8 [0x51, 0x34] (.eorDpIndY 0x34) &&
      reads8 [0x52, 0x34] (.eorDpInd 0x34) && reads8 [0x53, 0x34] (.eorSrIndY 0x34) &&
      reads8 [0x54, 0x34, 0x12] (.mvn 0x34 0x12) && reads8 [0x55, 0x34] (.eorDpX 0x34) &&
      reads8 [0x56, 0x34] (.lsrDpX 0x34) && reads8 [0x57, 0x34] (.eorDpIndLY 0x34) &&
      reads8 [0x58] .cli && reads8 [0x59, 0x34, 0x12] (.eorAbsY 0x1234) &&
      reads8 [0x5A] .phy && reads8 [0x5B] .tcd &&
      reads8 [0x5C, 0x34, 0x12, 0x7E] (.jmlAbsL 0x7E1234) && reads8 [0x5D, 0x34, 0x12] (.eorAbsX 0x1234) &&
      reads8 [0x5E, 0x34, 0x12] (.lsrAbsX 0x1234) && reads8 [0x5F, 0x34, 0x12, 0x7E] (.eorAbsLX 0x7E1234)) = true := by decide +kernel

theorem test_decode_row_6 :
    (reads8 [0x60] .rts && reads8 [0x61, 0x34] (.adcDpIndX 0x34) &&
      reads8 [0x62, 0x34, 0x12] (.per 0x1234) && reads8 [0x63, 0x34] (.adcSr 0x34) &&
      reads8 [0x64, 0x34] (.stzDp 0x34) && reads8 [0x65, 0x34] (.adcDp 0x34) &&
      reads8 [0x66, 0x34] (.rorDp 0x34) && reads8 [0x67, 0x34] (.adcDpIndL 0x34) &&
      reads8 [0x68] .pla && reads8 [0x69, 0x34] (.adcImm (.b8 0x34)) &&
      reads8 [0x6A] .rorAcc && reads8 [0x6B] .rtl &&
      reads8 [0x6C, 0x34, 0x12] (.jmpInd 0x1234) && reads8 [0x6D, 0x34, 0x12] (.adcAbs 0x1234) &&
      reads8 [0x6E, 0x34, 0x12] (.rorAbs 0x1234) && reads8 [0x6F, 0x34, 0x12, 0x7E] (.adcAbsL 0x7E1234)) = true := by decide +kernel

theorem test_decode_row_7 :
    (reads8 [0x70, 0x34] (.bvs 0x34) && reads8 [0x71, 0x34] (.adcDpIndY 0x34) &&
      reads8 [0x72, 0x34] (.adcDpInd 0x34) && reads8 [0x73, 0x34] (.adcSrIndY 0x34) &&
      reads8 [0x74, 0x34] (.stzDpX 0x34) && reads8 [0x75, 0x34] (.adcDpX 0x34) &&
      reads8 [0x76, 0x34] (.rorDpX 0x34) && reads8 [0x77, 0x34] (.adcDpIndLY 0x34) &&
      reads8 [0x78] .sei && reads8 [0x79, 0x34, 0x12] (.adcAbsY 0x1234) &&
      reads8 [0x7A] .ply && reads8 [0x7B] .tdc &&
      reads8 [0x7C, 0x34, 0x12] (.jmpIndX 0x1234) && reads8 [0x7D, 0x34, 0x12] (.adcAbsX 0x1234) &&
      reads8 [0x7E, 0x34, 0x12] (.rorAbsX 0x1234) && reads8 [0x7F, 0x34, 0x12, 0x7E] (.adcAbsLX 0x7E1234)) = true := by decide +kernel

theorem test_decode_row_8 :
    (reads8 [0x80, 0x34] (.bra 0x34) && reads8 [0x81, 0x34] (.staDpIndX 0x34) &&
      reads8 [0x82, 0x34, 0x12] (.brl 0x1234) && reads8 [0x83, 0x34] (.staSr 0x34) &&
      reads8 [0x84, 0x34] (.styDp 0x34) && reads8 [0x85, 0x34] (.staDp 0x34) &&
      reads8 [0x86, 0x34] (.stxDp 0x34) && reads8 [0x87, 0x34] (.staDpIndL 0x34) &&
      reads8 [0x88] .dey && reads8 [0x89, 0x34] (.bitImm (.b8 0x34)) &&
      reads8 [0x8A] .txa && reads8 [0x8B] .phb &&
      reads8 [0x8C, 0x34, 0x12] (.styAbs 0x1234) && reads8 [0x8D, 0x34, 0x12] (.staAbs 0x1234) &&
      reads8 [0x8E, 0x34, 0x12] (.stxAbs 0x1234) && reads8 [0x8F, 0x34, 0x12, 0x7E] (.staAbsL 0x7E1234)) = true := by decide +kernel

theorem test_decode_row_9 :
    (reads8 [0x90, 0x34] (.bcc 0x34) && reads8 [0x91, 0x34] (.staDpIndY 0x34) &&
      reads8 [0x92, 0x34] (.staDpInd 0x34) && reads8 [0x93, 0x34] (.staSrIndY 0x34) &&
      reads8 [0x94, 0x34] (.styDpX 0x34) && reads8 [0x95, 0x34] (.staDpX 0x34) &&
      reads8 [0x96, 0x34] (.stxDpY 0x34) && reads8 [0x97, 0x34] (.staDpIndLY 0x34) &&
      reads8 [0x98] .tya && reads8 [0x99, 0x34, 0x12] (.staAbsY 0x1234) &&
      reads8 [0x9A] .txs && reads8 [0x9B] .txy &&
      reads8 [0x9C, 0x34, 0x12] (.stzAbs 0x1234) && reads8 [0x9D, 0x34, 0x12] (.staAbsX 0x1234) &&
      reads8 [0x9E, 0x34, 0x12] (.stzAbsX 0x1234) && reads8 [0x9F, 0x34, 0x12, 0x7E] (.staAbsLX 0x7E1234)) = true := by decide +kernel

theorem test_decode_row_A :
    (reads8 [0xA0, 0x34] (.ldyImm (.b8 0x34)) && reads8 [0xA1, 0x34] (.ldaDpIndX 0x34) &&
      reads8 [0xA2, 0x34] (.ldxImm (.b8 0x34)) && reads8 [0xA3, 0x34] (.ldaSr 0x34) &&
      reads8 [0xA4, 0x34] (.ldyDp 0x34) && reads8 [0xA5, 0x34] (.ldaDp 0x34) &&
      reads8 [0xA6, 0x34] (.ldxDp 0x34) && reads8 [0xA7, 0x34] (.ldaDpIndL 0x34) &&
      reads8 [0xA8] .tay && reads8 [0xA9, 0x34] (.ldaImm (.b8 0x34)) &&
      reads8 [0xAA] .tax && reads8 [0xAB] .plb &&
      reads8 [0xAC, 0x34, 0x12] (.ldyAbs 0x1234) && reads8 [0xAD, 0x34, 0x12] (.ldaAbs 0x1234) &&
      reads8 [0xAE, 0x34, 0x12] (.ldxAbs 0x1234) && reads8 [0xAF, 0x34, 0x12, 0x7E] (.ldaAbsL 0x7E1234)) = true := by decide +kernel

theorem test_decode_row_B :
    (reads8 [0xB0, 0x34] (.bcs 0x34) && reads8 [0xB1, 0x34] (.ldaDpIndY 0x34) &&
      reads8 [0xB2, 0x34] (.ldaDpInd 0x34) && reads8 [0xB3, 0x34] (.ldaSrIndY 0x34) &&
      reads8 [0xB4, 0x34] (.ldyDpX 0x34) && reads8 [0xB5, 0x34] (.ldaDpX 0x34) &&
      reads8 [0xB6, 0x34] (.ldxDpY 0x34) && reads8 [0xB7, 0x34] (.ldaDpIndLY 0x34) &&
      reads8 [0xB8] .clv && reads8 [0xB9, 0x34, 0x12] (.ldaAbsY 0x1234) &&
      reads8 [0xBA] .tsx && reads8 [0xBB] .tyx &&
      reads8 [0xBC, 0x34, 0x12] (.ldyAbsX 0x1234) && reads8 [0xBD, 0x34, 0x12] (.ldaAbsX 0x1234) &&
      reads8 [0xBE, 0x34, 0x12] (.ldxAbsY 0x1234) && reads8 [0xBF, 0x34, 0x12, 0x7E] (.ldaAbsLX 0x7E1234)) = true := by decide +kernel

theorem test_decode_row_C :
    (reads8 [0xC0, 0x34] (.cpyImm (.b8 0x34)) && reads8 [0xC1, 0x34] (.cmpDpIndX 0x34) &&
      reads8 [0xC2, 0x34] (.rep 0x34) && reads8 [0xC3, 0x34] (.cmpSr 0x34) &&
      reads8 [0xC4, 0x34] (.cpyDp 0x34) && reads8 [0xC5, 0x34] (.cmpDp 0x34) &&
      reads8 [0xC6, 0x34] (.decDp 0x34) && reads8 [0xC7, 0x34] (.cmpDpIndL 0x34) &&
      reads8 [0xC8] .iny && reads8 [0xC9, 0x34] (.cmpImm (.b8 0x34)) &&
      reads8 [0xCA] .dex && reads8 [0xCB] .wai &&
      reads8 [0xCC, 0x34, 0x12] (.cpyAbs 0x1234) && reads8 [0xCD, 0x34, 0x12] (.cmpAbs 0x1234) &&
      reads8 [0xCE, 0x34, 0x12] (.decAbs 0x1234) && reads8 [0xCF, 0x34, 0x12, 0x7E] (.cmpAbsL 0x7E1234)) = true := by decide +kernel

theorem test_decode_row_D :
    (reads8 [0xD0, 0x34] (.bne 0x34) && reads8 [0xD1, 0x34] (.cmpDpIndY 0x34) &&
      reads8 [0xD2, 0x34] (.cmpDpInd 0x34) && reads8 [0xD3, 0x34] (.cmpSrIndY 0x34) &&
      reads8 [0xD4, 0x34] (.pei 0x34) && reads8 [0xD5, 0x34] (.cmpDpX 0x34) &&
      reads8 [0xD6, 0x34] (.decDpX 0x34) && reads8 [0xD7, 0x34] (.cmpDpIndLY 0x34) &&
      reads8 [0xD8] .cld && reads8 [0xD9, 0x34, 0x12] (.cmpAbsY 0x1234) &&
      reads8 [0xDA] .phx && reads8 [0xDB] .stp &&
      reads8 [0xDC, 0x34, 0x12] (.jmlIndL 0x1234) && reads8 [0xDD, 0x34, 0x12] (.cmpAbsX 0x1234) &&
      reads8 [0xDE, 0x34, 0x12] (.decAbsX 0x1234) && reads8 [0xDF, 0x34, 0x12, 0x7E] (.cmpAbsLX 0x7E1234)) = true := by decide +kernel

theorem test_decode_row_E :
    (reads8 [0xE0, 0x34] (.cpxImm (.b8 0x34)) && reads8 [0xE1, 0x34] (.sbcDpIndX 0x34) &&
      reads8 [0xE2, 0x34] (.sep 0x34) && reads8 [0xE3, 0x34] (.sbcSr 0x34) &&
      reads8 [0xE4, 0x34] (.cpxDp 0x34) && reads8 [0xE5, 0x34] (.sbcDp 0x34) &&
      reads8 [0xE6, 0x34] (.incDp 0x34) && reads8 [0xE7, 0x34] (.sbcDpIndL 0x34) &&
      reads8 [0xE8] .inx && reads8 [0xE9, 0x34] (.sbcImm (.b8 0x34)) &&
      reads8 [0xEA] .nop && reads8 [0xEB] .xba &&
      reads8 [0xEC, 0x34, 0x12] (.cpxAbs 0x1234) && reads8 [0xED, 0x34, 0x12] (.sbcAbs 0x1234) &&
      reads8 [0xEE, 0x34, 0x12] (.incAbs 0x1234) && reads8 [0xEF, 0x34, 0x12, 0x7E] (.sbcAbsL 0x7E1234)) = true := by decide +kernel

theorem test_decode_row_F :
    (reads8 [0xF0, 0x34] (.beq 0x34) && reads8 [0xF1, 0x34] (.sbcDpIndY 0x34) &&
      reads8 [0xF2, 0x34] (.sbcDpInd 0x34) && reads8 [0xF3, 0x34] (.sbcSrIndY 0x34) &&
      reads8 [0xF4, 0x34, 0x12] (.pea 0x1234) && reads8 [0xF5, 0x34] (.sbcDpX 0x34) &&
      reads8 [0xF6, 0x34] (.incDpX 0x34) && reads8 [0xF7, 0x34] (.sbcDpIndLY 0x34) &&
      reads8 [0xF8] .sed && reads8 [0xF9, 0x34, 0x12] (.sbcAbsY 0x1234) &&
      reads8 [0xFA] .plx && reads8 [0xFB] .xce &&
      reads8 [0xFC, 0x34, 0x12] (.jsrIndX 0x1234) && reads8 [0xFD, 0x34, 0x12] (.sbcAbsX 0x1234) &&
      reads8 [0xFE, 0x34, 0x12] (.incAbsX 0x1234) && reads8 [0xFF, 0x34, 0x12, 0x7E] (.sbcAbsLX 0x7E1234)) = true := by decide +kernel

/-- The twelve immediates at 16 bits. -/
theorem test_decode_wide_immediates :
    (reads ⟨false, true⟩ [0x09, 0x34, 0x12] (.oraImm (.b16 0x1234)) &&
      reads ⟨false, true⟩ [0x29, 0x34, 0x12] (.andImm (.b16 0x1234)) &&
      reads ⟨false, true⟩ [0x49, 0x34, 0x12] (.eorImm (.b16 0x1234)) &&
      reads ⟨false, true⟩ [0x69, 0x34, 0x12] (.adcImm (.b16 0x1234)) &&
      reads ⟨false, true⟩ [0x89, 0x34, 0x12] (.bitImm (.b16 0x1234)) &&
      reads ⟨true, false⟩ [0xA0, 0x34, 0x12] (.ldyImm (.b16 0x1234)) &&
      reads ⟨true, false⟩ [0xA2, 0x34, 0x12] (.ldxImm (.b16 0x1234)) &&
      reads ⟨false, true⟩ [0xA9, 0x34, 0x12] (.ldaImm (.b16 0x1234)) &&
      reads ⟨true, false⟩ [0xC0, 0x34, 0x12] (.cpyImm (.b16 0x1234)) &&
      reads ⟨false, true⟩ [0xC9, 0x34, 0x12] (.cmpImm (.b16 0x1234)) &&
      reads ⟨true, false⟩ [0xE0, 0x34, 0x12] (.cpxImm (.b16 0x1234)) &&
      reads ⟨false, true⟩ [0xE9, 0x34, 0x12] (.sbcImm (.b16 0x1234))) = true := by decide +kernel

/-- One word of each family, bit by bit: loads, stack, arithmetic, logic, control, modes, system, transfers. -/
theorem test_decode_bits :
    (reads8 [0b10100101, 0b00010000] (.ldaDp 0x10) && reads8 [0b11010100, 0b01000000] (.pei 0x40) &&
      reads8 [0b01101101, 0b00000000, 0b10000000] (.adcAbs 0x8000) && reads8 [0b00111110, 0b00000001, 0b00000010] (.rolAbsX 0x0201) &&
      reads8 [0b00100010, 0b00000001, 0b00000010, 0b00000011] (.jsl 0x030201) && reads8 [0b11100010, 0b00110000] (.sep 0x30) &&
      reads8 [0b01000100, 0b00000001, 0b00000010] (.mvp 0x01 0x02) && reads8 [0b11101011] .xba) = true := by decide +kernel

/-- Too few bytes are refused by name; a table word decodes as its opcode-table row. -/
theorem test_decode_short_and_table_word :
    (match decode ⟨true, true⟩ [0xAD, 0x34] with | .error e => e == .missingOperand 0xAD | .ok _ => false) = true ∧
    (match decode ⟨true, true⟩ [] with | .error e => e == .noOpcode | .ok _ => false) = true ∧
    decodeTableWord 24 0x12348D = some (.staAbs 0x1234) ∧ decodeTableWord 8 0xA9 = some (.ldaImm (.b8 0x00)) := by decide +kernel

/-- Every opcode byte, placed by `withFetchWord` after reset, runs as the next Step. -/
theorem test_every_opcode_runs_after_reset :
    ((List.range 256).all fun op =>
      match step (State.reset.withFetchWord 8 op) with
      | .next _ => true
      | _ => false) = true := by decide +kernel

/-! One Step on the base state of 95_test_vectors.md section 2.1; each theorem is named after its vector. -/

/-- The base state with registers and flags replaced by `f`, and memory listing `mem`. -/
def base (mem : Memory) : State :=
  { State.reset with
    e := false, sp := 0x1FFF, pc := 0x8000, bus := { Bus.empty with mem := mem }, cost := 0 }

/-- The Step answers a next state that passes the check. -/
def holds (s : State) (f : State → Bool) : Bool :=
  match step s with
  | .next t => f t
  | _ => false

/-- The addresses read, oldest first, and the bytes written. -/
def readsOf (s : State) : List Addr :=
  s.trace.filterMap fun
    | .read a _ => some a
    | .write _ _ => none

def writesOf (s : State) : List (Addr × Byte) :=
  s.trace.filterMap fun
    | .read _ _ => none
    | .write a v => some (a, v)

theorem test_V41_1 :
    (holds { base [(0x008000, 0xAF), (0x008001, 0xFF), (0x008002, 0xFF), (0x008003, 0x7E), (0x7EFFFF, 0x34), (0x7F0000, 0x12)] with p := { State.reset.p with m := false } }
      fun t => t.c == 0x1234 && !t.p.n && !t.p.z && (readsOf t).drop 4 == [0x7EFFFF, 0x7F0000] && t.cost == 6) = true := by decide +kernel

theorem test_V41_2 :
    (holds { base [(0x000008, 0x80), (0x008000, 0xB5), (0x008001, 0xF8)] with e := true, x := 0x0010, sp := 0x01FF }
      fun t => t.c == 0x0080 && t.p.n && !t.p.z && (readsOf t).drop 2 == [0x000008] && t.cost == 4) = true := by decide +kernel

theorem test_V41_3 :
    (holds { base [(0x008000, 0xB5), (0x008001, 0xF8)] with x := 0x0010 }
      fun t => !t.p.n && t.p.z && (readsOf t).drop 2 == [0x000108] && t.cost == 4) = true := by decide +kernel

theorem test_V41_5 :
    (holds { base [(0x000000, 0x90), (0x008000, 0xA1), (0x008001, 0xFF), (0x009000, 0x55)] with e := true, sp := 0x01FF }
      fun t => t.c == 0x0055 && (readsOf t).drop 2 == [0x0000FF, 0x000000, 0x009000] && t.cost == 6) = true := by decide +kernel

theorem test_V41_6 :
    (holds { base [(0x000000, 0xAB), (0x008000, 0xA5), (0x008001, 0x0F), (0x00FFFF, 0xCD)] with d := 0xFFF0, p := { State.reset.p with m := false } }
      fun t => t.c == 0xABCD && t.p.n && !t.p.z && (readsOf t).drop 2 == [0x00FFFF, 0x000000] && t.cost == 5) = true := by decide +kernel

theorem test_V41_7 :
    (holds { base [(0x000010, 0xF0), (0x000011, 0xFF), (0x008000, 0xB1), (0x008001, 0x10), (0x130010, 0x01)] with y := 0x0020, db := 0x12 }
      fun t => t.c == 0x0001 && (readsOf t).drop 2 == [0x000010, 0x000011, 0x130010] && t.cost == 6) = true := by decide +kernel

theorem test_V41_8 :
    (holds { base [(0x001FF3, 0x30), (0x008000, 0xB3), (0x008001, 0x02), (0x7E3004, 0x99)] with y := 0x0004, sp := 0x1FF0, db := 0x7E }
      fun t => t.c == 0x0099 && t.p.n && !t.p.z && (readsOf t).drop 2 == [0x001FF2, 0x001FF3, 0x7E3004] && t.cost == 7) = true := by decide +kernel

theorem test_V41_9 :
    (holds { base [(0x000020, 0xFF), (0x000021, 0xFF), (0x000022, 0x7E), (0x008000, 0xB7), (0x008001, 0x20), (0x7F0000, 0x42)] with y := 0x0001 }
      fun t => t.c == 0x0042 && (readsOf t).drop 2 == [0x000020, 0x000021, 0x000022, 0x7F0000] && t.cost == 6) = true := by decide +kernel

theorem test_V41_10 :
    (holds { base [(0x008000, 0x8D), (0x008001, 0xFF), (0x008002, 0xFF)] with c := 0xABCD, db := 0x7E, p := { State.reset.p with m := false } }
      fun t => writesOf t == [(0x7EFFFF, 0xCD), (0x7F0000, 0xAB)] && t.cost == 5) = true := by decide +kernel

theorem test_V41_11 :
    (holds { base [(0x000010, 0x11), (0x000011, 0x22), (0x008000, 0x64), (0x008001, 0x10)] with c := 0xFFFF, p := { State.reset.p with m := false } }
      fun t => t.c == 0xFFFF && writesOf t == [(0x000010, 0x00), (0x000011, 0x00)] && t.cost == 4) = true := by decide +kernel

theorem test_V41_12 :
    (holds (base [(0x008000, 0xA2), (0x008001, 0xFF)])
      fun t => t.x == 0x00FF && t.p.n && !t.p.z && t.cost == 2) = true := by decide +kernel

theorem test_V41_13 :
    (holds { base [(0x008000, 0xA0), (0x008002, 0x80)] with p := { State.reset.p with x := false } }
      fun t => t.y == 0x8000 && t.p.n && !t.p.z && t.pc == 0x8003 && t.cost == 3) = true := by decide +kernel

theorem test_V41_14 :
    (holds { base [(0x008000, 0xA9)] with c := 0x1234 }
      fun t => t.c == 0x1200 && !t.p.n && t.p.z && t.cost == 2) = true := by decide +kernel

theorem test_V41_15 :
    (holds { base [(0x008000, 0xBD), (0x008001, 0x10), (0x008002, 0x90)] with x := 0x00F0, p := { State.reset.p with x := false } }
      fun t => !t.p.n && t.p.z && (readsOf t).drop 3 == [0x009100] && t.cost == 5) = true := by decide +kernel

theorem test_V41_16 :
    (holds { base [(0x008000, 0xBD), (0x008001, 0xF0), (0x008002, 0x8F), (0x009010, 0x01)] with e := true, x := 0x0020, sp := 0x01FF }
      fun t => t.c == 0x0001 && (readsOf t).drop 3 == [0x009010] && t.cost == 5) = true := by decide +kernel

theorem test_V41_17 :
    (holds { base [(0x008000, 0x95), (0x008001, 0xFF)] with e := true, c := 0x0066, x := 0x0005, sp := 0x01FF, d := 0x0100 }
      fun t => writesOf t == [(0x000104, 0x66)] && t.cost == 4) = true := by decide +kernel

theorem test_V42_1 :
    (holds { base [(0x008000, 0xAA)] with c := 0x1234, p := { State.reset.p with x := false } }
      fun t => t.x == 0x1234 && !t.p.n && !t.p.z && t.cost == 2) = true := by decide +kernel

theorem test_V42_2 :
    (holds { base [(0x008000, 0x8A)] with c := 0xFFFF, x := 0x1280, p := { State.reset.p with x := false } }
      fun t => t.c == 0xFF80 && t.p.n && !t.p.z && t.cost == 2) = true := by decide +kernel

theorem test_V42_3 :
    (holds { base [(0x008000, 0xA8)] with c := 0xABCD, p := { State.reset.p with m := false } }
      fun t => t.y == 0x00CD && t.p.n && !t.p.z && t.cost == 2) = true := by decide +kernel

theorem test_V42_4 :
    (holds { base [(0x008000, 0x9A)] with e := true, x := 0x0034, sp := 0x01FF }
      fun t => t.sp == 0x0134 && !t.p.n && !t.p.z && t.cost == 2) = true := by decide +kernel

theorem test_V42_5 :
    (holds { base [(0x008000, 0x3B)] with e := true, sp := 0x01FF }
      fun t => t.c == 0x01FF && !t.p.n && !t.p.z && t.cost == 2) = true := by decide +kernel

theorem test_V42_6 :
    (holds { base [(0x008000, 0xEB)] with c := 0x0080 }
      fun t => t.c == 0x8000 && !t.p.n && t.p.z && t.cost == 3) = true := by decide +kernel

theorem test_V42_7 :
    (holds { base [(0x008000, 0x5B)] with c := 0x8000 }
      fun t => t.d == 0x8000 && t.p.n && !t.p.z && t.cost == 2) = true := by decide +kernel

theorem test_V42_8 :
    (holds { base [(0x008000, 0xBB)] with x := 0x0001, y := 0x00FF }
      fun t => t.x == 0x00FF && t.p.n && !t.p.z && t.cost == 2) = true := by decide +kernel

theorem test_V42_9 :
    (holds { base [(0x008000, 0x1B)] with e := true, c := 0x5511, sp := 0x01FF }
      fun t => t.sp == 0x0111 && t.cost == 2) = true := by decide +kernel

theorem test_V42_10 :
    (holds { base [(0x008000, 0xBA)] with sp := 0x1FF0 }
      fun t => t.x == 0x00F0 && t.p.n && !t.p.z && t.cost == 2) = true := by decide +kernel

theorem test_V43_1 :
    (holds { base [(0x008000, 0x48)] with c := 0x1234, p := { State.reset.p with m := false } }
      fun t => t.sp == 0x1FFD && writesOf t == [(0x001FFF, 0x12), (0x001FFE, 0x34)] && t.cost == 4) = true := by decide +kernel

theorem test_V43_2 :
    (holds { base [(0x008000, 0x08)] with e := true, sp := 0x0100, p := { State.reset.p with n := true, c := true } }
      fun t => t.sp == 0x01FF && writesOf t == [(0x000100, 0xB5)] && t.cost == 3) = true := by decide +kernel

theorem test_V43_3 :
    (holds { base [(0x001FFF, 0x30), (0x008000, 0x28)] with x := 0x1234, y := 0x5678, sp := 0x1FFE, p := { State.reset.p with x := false } }
      fun t => t.x == 0x0034 && t.y == 0x0078 && t.p.m && t.p.x && !t.p.i && t.sp == 0x1FFF && t.cost == 4) = true := by decide +kernel

theorem test_V43_4 :
    (holds (base [(0x008000, 0xF4), (0x008001, 0x34), (0x008002, 0x12)])
      fun t => t.sp == 0x1FFD && writesOf t == [(0x001FFF, 0x12), (0x001FFE, 0x34)] && t.cost == 5) = true := by decide +kernel

theorem test_V43_5 :
    (holds (base [(0x008000, 0x62), (0x008001, 0x10)])
      fun t => t.sp == 0x1FFD && writesOf t == [(0x001FFF, 0x80), (0x001FFE, 0x13)] && t.cost == 6) = true := by decide +kernel

theorem test_V43_6 :
    (holds { base [(0x000041, 0x78), (0x000042, 0x56), (0x008000, 0xD4), (0x008001, 0x40)] with d := 0x0001 }
      fun t => t.sp == 0x1FFD && writesOf t == [(0x001FFF, 0x56), (0x001FFE, 0x78)] && t.cost == 7) = true := by decide +kernel

theorem test_V43_7 :
    (holds { base [(0x008000, 0xAB)] with sp := 0x1FFE, db := 0x7E }
      fun t => t.db == 0x00 && !t.p.n && t.p.z && t.sp == 0x1FFF && t.cost == 4) = true := by decide +kernel

theorem test_V43_8 :
    (holds { base [(0x001FFF, 0x80), (0x008000, 0x2B)] with sp := 0x1FFD }
      fun t => t.d == 0x8000 && t.p.n && !t.p.z && t.sp == 0x1FFF && t.cost == 5) = true := by decide +kernel

theorem test_V43_9 :
    (holds { base [(0x000100, 0x5A), (0x008000, 0x68)] with e := true, sp := 0x01FF }
      fun t => t.c == 0x005A && !t.p.n && !t.p.z && t.sp == 0x0100 && (readsOf t).drop 1 == [0x000100] && t.cost == 4) = true := by decide +kernel

theorem test_V43_10 :
    (holds { base [(0x128000, 0x4B)] with pb := 0x12 }
      fun t => writesOf t == [(0x001FFF, 0x12)] && t.sp == 0x1FFE && t.cost == 3) = true := by decide +kernel

theorem test_V43_11 :
    (holds { base [(0x0001FE, 0xFF), (0x008000, 0x28)] with e := true, sp := 0x01FD }
      fun t => pByte t.e true t.p == 0xFF && t.p.n && t.p.v && t.p.d && t.p.i && t.p.z && t.p.c && t.p.m && t.p.x && t.sp == 0x01FE && t.cost == 4) = true := by decide +kernel

theorem test_V44_1 :
    (holds { base [(0x008000, 0x69), (0x008001, 0x46)] with e := true, c := 0x0058, sp := 0x01FF, p := { State.reset.p with d := true } }
      fun t => t.c == 0x0004 && !t.p.n && t.p.v && !t.p.z && t.p.c && t.cost == 2) = true := by decide +kernel

theorem test_V44_3 :
    (holds { base [(0x008000, 0x69)] with e := true, c := 0x0079, sp := 0x01FF, p := { State.reset.p with d := true, c := true } }
      fun t => t.c == 0x0080 && t.p.n && t.p.v && !t.p.z && !t.p.c && t.cost == 2) = true := by decide +kernel

theorem test_V44_12 :
    (holds { base [(0x008000, 0xE9), (0x008001, 0x03)] with e := true, c := 0x0012, sp := 0x01FF, p := { State.reset.p with d := true, c := true } }
      fun t => t.c == 0x0009 && !t.p.n && !t.p.v && !t.p.z && t.p.c && t.cost == 2) = true := by decide +kernel

theorem test_V44_13 :
    (holds { base [(0x008000, 0xE9), (0x008001, 0x01)] with e := true, sp := 0x01FF, p := { State.reset.p with d := true, c := true } }
      fun t => t.c == 0x0099 && t.p.n && !t.p.v && !t.p.z && !t.p.c && t.cost == 2) = true := by decide +kernel

theorem test_V44_23 :
    (holds { base [(0x008000, 0xC9), (0x008001, 0x41)] with c := 0xAB40 }
      fun t => t.c == 0xAB40 && t.p.n && !t.p.z && !t.p.c && t.cost == 2) = true := by decide +kernel

theorem test_V44_24 :
    (holds { base [(0x008000, 0xC9), (0x008001, 0x40)] with c := 0x0040 }
      fun t => !t.p.n && t.p.z && t.p.c && t.cost == 2) = true := by decide +kernel

theorem test_V44_25 :
    (holds { base [(0x008000, 0xE0), (0x008002, 0x80)] with x := 0x8000, p := { State.reset.p with x := false } }
      fun t => !t.p.n && t.p.z && t.p.c && t.cost == 3) = true := by decide +kernel

theorem test_V44_26 :
    (holds (base [(0x008000, 0xC0), (0x008001, 0x01)])
      fun t => t.p.n && !t.p.z && !t.p.c && t.cost == 2) = true := by decide +kernel

theorem test_V44_27 :
    (holds { base [(0x008000, 0x1A)] with c := 0x12FF }
      fun t => t.c == 0x1200 && !t.p.n && t.p.z && t.cost == 2) = true := by decide +kernel

theorem test_V44_28 :
    (holds { base [(0x008000, 0x3A)] with p := { State.reset.p with m := false } }
      fun t => t.c == 0xFFFF && t.p.n && !t.p.z && t.cost == 2) = true := by decide +kernel

theorem test_V44_29 :
    (holds { base [(0x008000, 0xE8)] with x := 0x00FF }
      fun t => t.x == 0x0000 && !t.p.n && t.p.z && t.cost == 2) = true := by decide +kernel

theorem test_V44_30 :
    (holds { base [(0x008000, 0x88)] with p := { State.reset.p with x := false } }
      fun t => t.y == 0xFFFF && t.p.n && !t.p.z && t.cost == 2) = true := by decide +kernel

theorem test_V44_31 :
    (holds { base [(0x000010, 0xFF), (0x008000, 0xE6), (0x008001, 0x10)] with p := { State.reset.p with m := false } }
      fun t => writesOf t == [(0x000011, 0x01), (0x000010, 0x00)] && !t.p.n && !t.p.z && t.cost == 7) = true := by decide +kernel

theorem test_V44_32 :
    (holds (base [(0x008000, 0xCE), (0x008001, 0x34), (0x008002, 0x12)])
      fun t => writesOf t == [(0x001234, 0xFF)] && t.p.n && !t.p.z && t.cost == 6) = true := by decide +kernel

theorem test_V45_1 :
    (holds { base [(0x008000, 0x29), (0x008001, 0x0F)] with c := 0x00F0 }
      fun t => t.c == 0x0000 && !t.p.n && t.p.z && t.cost == 2) = true := by decide +kernel

theorem test_V45_2 :
    (holds { base [(0x008000, 0x09), (0x008002, 0x80)] with c := 0x00F0, p := { State.reset.p with m := false } }
      fun t => t.c == 0x80F0 && t.p.n && !t.p.z && t.cost == 3) = true := by decide +kernel

theorem test_V45_3 :
    (holds { base [(0x008000, 0x49), (0x008001, 0xFF)] with c := 0x00FF }
      fun t => t.c == 0x0000 && !t.p.n && t.p.z && t.cost == 2) = true := by decide +kernel

theorem test_V45_4 :
    (holds { base [(0x008000, 0x89), (0x008001, 0x80)] with p := { State.reset.p with n := true, v := true } }
      fun t => t.p.n && t.p.v && t.p.z && !t.p.c && t.cost == 2) = true := by decide +kernel

theorem test_V45_5 :
    (holds { base [(0x000010, 0xC0), (0x008000, 0x24), (0x008001, 0x10)] with c := 0x0001 }
      fun t => t.p.n && t.p.v && t.p.z && !t.p.c && t.cost == 3) = true := by decide +kernel

theorem test_V45_6 :
    (holds { base [(0x000010, 0x01), (0x000011, 0x40), (0x008000, 0x24), (0x008001, 0x10)] with c := 0x0001, p := { State.reset.p with m := false } }
      fun t => !t.p.n && t.p.v && !t.p.z && !t.p.c && t.cost == 4) = true := by decide +kernel

theorem test_V45_7 :
    (holds { base [(0x000010, 0x0F), (0x008000, 0x04), (0x008001, 0x10)] with c := 0x00F0 }
      fun t => writesOf t == [(0x000010, 0xFF)] && t.p.z && t.cost == 5) = true := by decide +kernel

theorem test_V45_8 :
    (holds { base [(0x000010, 0xFF), (0x008000, 0x14), (0x008001, 0x10)] with c := 0x000F }
      fun t => writesOf t == [(0x000010, 0xF0)] && !t.p.z && t.cost == 5) = true := by decide +kernel

theorem test_V45_9 :
    (holds { base [(0x008000, 0x0A)] with c := 0x0081 }
      fun t => t.c == 0x0002 && !t.p.n && !t.p.z && t.p.c && t.cost == 2) = true := by decide +kernel

theorem test_V45_10 :
    (holds { base [(0x008000, 0x4A)] with c := 0x0001 }
      fun t => t.c == 0x0000 && !t.p.n && t.p.z && t.p.c && t.cost == 2) = true := by decide +kernel

theorem test_V45_11 :
    (holds { base [(0x008000, 0x2A)] with c := 0x0080, p := { State.reset.p with c := true } }
      fun t => t.c == 0x0001 && !t.p.n && !t.p.z && t.p.c && t.cost == 2) = true := by decide +kernel

theorem test_V45_12 :
    (holds { base [(0x008000, 0x6A)] with c := 0x0001 }
      fun t => t.c == 0x0000 && !t.p.n && t.p.z && t.p.c && t.cost == 2) = true := by decide +kernel

theorem test_V45_13 :
    (holds { base [(0x008000, 0x6A)] with c := 0x0001, p := { State.reset.p with m := false, c := true } }
      fun t => t.c == 0x8000 && t.p.n && !t.p.z && t.p.c && t.cost == 2) = true := by decide +kernel

theorem test_V45_14 :
    (holds { base [(0x000010, 0x01), (0x000011, 0x80), (0x008000, 0x06), (0x008001, 0x10)] with p := { State.reset.p with m := false } }
      fun t => writesOf t == [(0x000011, 0x00), (0x000010, 0x02)] && !t.p.n && !t.p.z && t.p.c && t.cost == 7) = true := by decide +kernel

theorem test_V45_15 :
    (holds { base [(0x008000, 0x4A)] with c := 0x0080 }
      fun t => t.c == 0x0040 && !t.p.n && !t.p.z && !t.p.c && t.cost == 2) = true := by decide +kernel

theorem test_V46_1 :
    (holds { base [(0x008000, 0xD0), (0x008001, 0x10)] with e := true, sp := 0x01FF, p := { State.reset.p with z := true } }
      fun t => t.pc == 0x8002 && t.cost == 2) = true := by decide +kernel

theorem test_V46_2 :
    (holds { base [(0x0080F0, 0xD0), (0x0080F1, 0x20)] with e := true, sp := 0x01FF, pc := 0x80F0 }
      fun t => t.pc == 0x8112 && t.cost == 4) = true := by decide +kernel

theorem test_V46_4 :
    (holds (base [(0x008000, 0x80), (0x008001, 0x80)])
      fun t => t.pc == 0x7F82 && t.cost == 3) = true := by decide +kernel

theorem test_V46_5 :
    (holds { base [(0x00FFFE, 0x80), (0x00FFFF, 0x10)] with pc := 0xFFFE }
      fun t => t.pc == 0x0010 && t.pb == 0x00 && t.cost == 3) = true := by decide +kernel

theorem test_V46_6 :
    (holds { base [(0x00FFF0, 0x82), (0x00FFF1, 0x20)] with pc := 0xFFF0 }
      fun t => t.pc == 0x0013 && t.cost == 4) = true := by decide +kernel

theorem test_V46_7 :
    (holds { base [(0x028000, 0x4C), (0x028002, 0x90)] with pb := 0x02 }
      fun t => t.pb == 0x02 && t.pc == 0x9000 && t.cost == 3) = true := by decide +kernel

theorem test_V46_8 :
    (holds { base [(0x000301, 0x90), (0x028000, 0x6C), (0x028002, 0x03)] with pb := 0x02 }
      fun t => t.pb == 0x02 && t.pc == 0x9000 && (readsOf t).drop 3 == [0x000300, 0x000301] && t.cost == 5) = true := by decide +kernel

theorem test_V46_9 :
    (holds { base [(0x018000, 0x7C), (0x018002, 0x90), (0x019003, 0xA0)] with x := 0x0002, pb := 0x01 }
      fun t => t.pb == 0x01 && t.pc == 0xA000 && t.cost == 6) = true := by decide +kernel

theorem test_V46_10 :
    (holds (base [(0x000301, 0x80), (0x000302, 0xC0), (0x008000, 0xDC), (0x008002, 0x03)])
      fun t => t.pb == 0xC0 && t.pc == 0x8000 && t.cost == 6) = true := by decide +kernel

theorem test_V46_11 :
    (holds (base [(0x008000, 0x5C), (0x008001, 0x56), (0x008002, 0x34), (0x008003, 0x12)])
      fun t => t.pb == 0x12 && t.pc == 0x3456 && t.cost == 4) = true := by decide +kernel

theorem test_V46_12 :
    (holds (base [(0x008000, 0x20), (0x008002, 0x90)])
      fun t => t.pc == 0x9000 && t.sp == 0x1FFD && writesOf t == [(0x001FFF, 0x80), (0x001FFE, 0x02)] && t.cost == 6) = true := by decide +kernel

theorem test_V46_13 :
    (holds { base [(0x058000, 0x22), (0x058002, 0x90), (0x058003, 0x7E)] with pb := 0x05 }
      fun t => t.pb == 0x7E && t.pc == 0x9000 && t.sp == 0x1FFC && writesOf t == [(0x001FFF, 0x05), (0x001FFE, 0x80), (0x001FFD, 0x03)] && t.cost == 8) = true := by decide +kernel

theorem test_V46_14 :
    (holds { base [(0x001FFD, 0x02), (0x001FFE, 0x80), (0x008000, 0x60)] with sp := 0x1FFC }
      fun t => t.pc == 0x8003 && t.sp == 0x1FFE && t.cost == 6) = true := by decide +kernel

theorem test_V46_15 :
    (holds { base [(0x001FFD, 0x03), (0x001FFE, 0x80), (0x001FFF, 0x05), (0x008000, 0x6B)] with sp := 0x1FFC }
      fun t => t.pb == 0x05 && t.pc == 0x8004 && t.sp == 0x1FFF && t.cost == 6) = true := by decide +kernel

theorem test_V46_16 :
    (holds { base [(0x008000, 0xFC), (0x008002, 0x90), (0x009003, 0xA0)] with x := 0x0002 }
      fun t => t.pc == 0xA000 && t.sp == 0x1FFD && writesOf t == [(0x001FFF, 0x80), (0x001FFE, 0x02)] && t.cost == 8) = true := by decide +kernel

theorem test_V46_17 :
    (holds { base [(0x03FFFF, 0xEA)] with pb := 0x03, pc := 0xFFFF }
      fun t => t.pb == 0x03 && t.pc == 0x0000 && t.cost == 2) = true := by decide +kernel

theorem test_V46_18 :
    (holds { base [(0x008000, 0x50), (0x008001, 0x05)] with p := { State.reset.p with v := true } }
      fun t => t.pc == 0x8002 && t.cost == 2) = true := by decide +kernel

theorem test_V46_19 :
    (holds { base [(0x008000, 0x30), (0x008001, 0xFE)] with p := { State.reset.p with n := true } }
      fun t => t.pc == 0x8000 && t.cost == 3) = true := by decide +kernel

theorem test_V47_1 :
    (holds { base [(0x008000, 0xC2), (0x008001, 0x30)] with e := true, sp := 0x01FF }
      fun t => t.p.m && t.p.x && pByte t.e true t.p == 0x34 && t.cost == 3) = true := by decide +kernel

theorem test_V47_2 :
    (holds { base [(0x008000, 0xE2), (0x008001, 0x10)] with x := 0x1234, y := 0xABCD, p := { State.reset.p with x := false } }
      fun t => t.x == 0x0034 && t.y == 0x00CD && t.p.x && t.cost == 3) = true := by decide +kernel

theorem test_V47_3 :
    (holds { base [(0x008000, 0xFB)] with c := 0xBEEF, x := 0x1234, sp := 0x1FF0, p := { State.reset.p with m := false, x := false, c := true } }
      fun t => t.e && !t.p.c && t.p.m && t.p.x && t.x == 0x0034 && t.sp == 0x01F0 && t.c == 0xBEEF && t.cost == 2) = true := by decide +kernel

theorem test_V47_4 :
    (holds { base [(0x008000, 0xFB)] with e := true, sp := 0x01FF }
      fun t => !t.e && t.p.c && t.p.m && t.p.x && t.sp == 0x01FF && t.cost == 2) = true := by decide +kernel

theorem test_V47_5 :
    (holds { base [(0x008000, 0xC2), (0x008001, 0xFF)] with p := { State.reset.p with n := true, v := true, d := true, z := true, c := true } }
      fun t => pByte t.e true t.p == 0x00 && t.cost == 3) = true := by decide +kernel

theorem test_V47_6 :
    (holds { base [(0x008000, 0x58)] with e := true, sp := 0x01FF }
      fun t => !t.p.i && t.cost == 2) = true := by decide +kernel

theorem test_V47_7 :
    (holds { base [(0x008000, 0xB8)] with p := { State.reset.p with v := true } }
      fun t => !t.p.v && t.cost == 2) = true := by decide +kernel

theorem test_V47_8 :
    (holds { base [(0x008000, 0xE2), (0x008001, 0x20)] with e := true, c := 0xBEEF, sp := 0x01FF }
      fun t => t.c == 0xBEEF && t.p.m && pByte t.e true t.p == 0x34 && t.cost == 3) = true := by decide +kernel

theorem test_V48_1 :
    (holds { base [(0x00FFE7, 0x70), (0x018001, 0xAA)] with pb := 0x01, p := { State.reset.p with i := false }, iPoll := false }
      fun t => t.pb == 0x00 && t.pc == 0x7000 && t.sp == 0x1FFB && writesOf t == [(0x001FFF, 0x01), (0x001FFE, 0x80), (0x001FFD, 0x02), (0x001FFC, 0x30)] && t.p.i && !t.p.d && t.cost == 8) = true := by decide +kernel

theorem test_V48_2 :
    (holds { base [(0x008000, 0x02), (0x00FFF5, 0x71)] with e := true, sp := 0x01FF, p := { State.reset.p with d := true, i := false }, iPoll := false }
      fun t => t.pc == 0x7100 && t.sp == 0x01FC && writesOf t == [(0x0001FF, 0x80), (0x0001FE, 0x02), (0x0001FD, 0x38)] && t.p.i && !t.p.d && t.cost == 7) = true := by decide +kernel

theorem test_V48_3 :
    (holds { base [(0x001FFC, 0x30), (0x001FFD, 0x34), (0x001FFE, 0x12), (0x001FFF, 0x05), (0x008000, 0x40)] with sp := 0x1FFB }
      fun t => t.pb == 0x05 && t.pc == 0x1234 && t.sp == 0x1FFF && t.p.m && t.p.x && t.cost == 7) = true := by decide +kernel

theorem test_V48_4 :
    (holds (base [(0x008000, 0x42), (0x008001, 0xFF)])
      fun t => t.pc == 0x8002 && t.cost == 2) = true := by decide +kernel

theorem test_V60_1 :
    (holds { base [(0x00FFEF, 0xB0), (0x029000, 0xEA)] with pb := 0x02, pc := 0x9000, p := { State.reset.p with i := false }, iPoll := false, irqLine := true }
      fun t => t.pb == 0x00 && t.pc == 0xB000 && t.sp == 0x1FFB && writesOf t == [(0x001FFF, 0x02), (0x001FFE, 0x90), (0x001FFD, 0x00), (0x001FFC, 0x30)] && t.p.i && t.cost == 8) = true := by decide +kernel

theorem test_V60_2 :
    (holds { base [(0x008000, 0xEA)] with irqLine := true }
      fun t => t.pc == 0x8001 && t.sp == 0x1FFF && t.cost == 2) = true := by decide +kernel

theorem test_V60_3 :
    (holds { base [(0x008000, 0xEA), (0x00FFFF, 0xB0)] with e := true, sp := 0x01FF, p := { State.reset.p with n := true, i := false }, iPoll := false, irqLine := true }
      fun t => t.pc == 0xB000 && t.sp == 0x01FC && writesOf t == [(0x0001FF, 0x80), (0x0001FE, 0x00), (0x0001FD, 0xA0)] && t.cost == 7) = true := by decide +kernel

theorem test_V60_4 :
    (holds { base [(0x008000, 0xEA), (0x00FFEB, 0xA0), (0x00FFEF, 0xB0)] with p := { State.reset.p with i := false }, iPoll := false, irqLine := true, nmiPending := true }
      fun t => t.pc == 0xA000 && t.p.i && t.sp == 0x1FFB && !t.nmiPending && t.cost == 8) = true := by decide +kernel

theorem test_V60_6 :
    (holds { base [(0x008000, 0xEA), (0x00FFFB, 0xC0)] with e := true, sp := 0x01FF, p := { State.reset.p with d := true }, nmiPending := true }
      fun t => t.pc == 0xC000 && t.sp == 0x01FC && writesOf t == [(0x0001FF, 0x80), (0x0001FE, 0x00), (0x0001FD, 0x2C)] && !t.p.d && t.p.i && t.cost == 7) = true := by decide +kernel

/-! Witnesses: for each obligation with hypotheses, a concrete input that meets them together, clause by clause. -/

/-- A bus with a ROM bank 0xC0 and a device page 0x21 in bank 0; everything else is RAM. -/
def mixedBus : Bus :=
  { mem := [(0x000010, 0x12), (0xC00000, 0x34)], devices := 0, log := []
    regions := [⟨0xC00000, 0xC0FFFF, .rom⟩, ⟨0x002100, 0x0021FF, .device⟩] }

/-- A native state with 16-bit widths, X at 0x1234 and an unaligned D; all of memory is RAM. -/
def wide : State :=
  { base [(0x000020, 0x56)] with
    c := 0x8001, x := 0x1234, y := 0xFFFF, d := 0x00FF, db := 0x7E
    p := { State.reset.p with m := false, x := false } }

/-- An emulation state with S at the bottom of page 1; all of memory is RAM. -/
def emu : State := { base [(0x00FFFC, 0x12)] with e := true, sp := 0x0100, x := 0x00FF, y := 0x0001 }

/-- The bytes of an instruction at PB:PC of a state. -/
def withCode (s : State) (bs : List Byte) : State :=
  { s with bus := { s.bus with mem := placeBytes s.pb s.pc bs s.bus.mem } }

theorem wit_wide_inv : Inv wide := by constructor <;> decide +kernel
theorem wit_emu_inv : Inv emu := by constructor <;> decide +kernel

/-- The state on a bus whose vectors, and all of 00:8000 to 00:FFFF, are ROM. -/
def romVectors (s : State) : State := { s with bus := { s.bus with regions := [⟨0x008000, 0x00FFFF, .rom⟩] } }

/-- An emulation state in which no opcode addresses the stack linearly. -/
def paged : State := { emu with params := { emu.params with linearStackOps := [] } }

/-- What holds of every listed cell holds of each. -/
theorem each {l : List (Addr × Byte)} {p : Addr × Byte → Bool} (h : l.all p = true) : ∀ c ∈ l, p c = true :=
  List.all_eq_true.1 h

theorem wit_rom_inv : Inv (romVectors wide) ∧ Inv (romVectors emu) ∧ Inv (romVectors paged) := by
  refine ⟨?_, ?_, ?_⟩ <;> constructor <;> decide +kernel

theorem wit_DecodeOfEncodeIsTheInstruction :
    (Instr.ldaImm (.b16 0xFFFF)).wf ⟨false, true⟩ = true ∧ (Instr.ldxImm (.b8 0xFF)).wf ⟨false, true⟩ = true ∧
    (Instr.jsl 0xFFFFFF).wf ⟨true, true⟩ = true := by decide

theorem wit_EncodeOfDecodeIsTheBytes :
    decode ⟨true, true⟩ [0x22, 0xFF, 0x00, 0x7E, 0x01] = .ok (.jsl 0x7E00FF, [0x01]) := rfl

theorem wit_ImmediateLengthFollowsTheWidthFlag :
    (Instr.nop).wf ⟨true, true⟩ = true ∧ (Instr.nop).length = 1 ∧ (Instr.jsl 0x000000).length = 4 ∧
    (0x89 : Byte) ∈ ([0xA9, 0x69, 0xE9, 0x29, 0x09, 0x49, 0xC9, 0x89] : List Byte) ∧
    (0xC0 : Byte) ∈ ([0xA2, 0xA0, 0xE0, 0xC0] : List Byte) := by decide

theorem wit_MemoryReadsBackTheByteWritten :
    Memory.wf [(0x000000, 0x01), (0xFFFFFF, 0xFF)] = true ∧ (0xFFFFFF : Addr) ≠ 0x000000 := by decide

theorem wit_BusPortServesRamRomAndOracle :
    mixedBus.mem.wf = true ∧ mixedBus.kindAt 0xBFFFFF = .ram ∧ mixedBus.kindAt 0xC00000 = .rom ∧
    mixedBus.kindAt 0xC0FFFF = .rom ∧ mixedBus.kindAt 0x002100 = .device ∧ mixedBus.kindAt 0x0021FF = .device ∧
    mixedBus.kindAt 0x002200 = .ram := by decide +kernel

theorem wit_DirectPageAddressWraps :
    (emu.e = true ∧ lo emu.d = 0x00) ∧ ¬ (wide.e = true ∧ lo wide.d = 0x00) ∧
    ¬ ({ emu with d := 0x0001 }.e = true ∧ lo { emu with d := 0x0001 }.d = 0x00) := by decide +kernel

theorem wit_IndirectModesFollowTheirPointer :
    (0xA7 : Byte) ∈ emu.params.linearDpOps ∧ (0xD4 : Byte) ∉ emu.params.linearDpOps ∧ emu.legacyPage = true ∧
    wide.backed (dpAddr wide 0xFF wide.x) = true ∧ wide.backed ((dpStep wide).next (dpAddr wide 0xFF wide.x)) = true ∧
    emu.backed (dpAddr emu 0xFF 0) = true ∧ emu.backed ((dpStep emu).next (dpAddr emu 0xFF 0)) = true ∧
    emu.backed (bank0 (emu.d + zext16 0xFF)) = true ∧
    emu.backed ((ptrStep 0xA7 emu).next (bank0 (emu.d + zext16 0xFF))) = true ∧
    emu.backed ((ptrStep 0xA7 emu).next ((ptrStep 0xA7 emu).next (bank0 (emu.d + zext16 0xFF)))) = true ∧
    wide.backed (bank0 (wide.sp + zext16 0xFF)) = true ∧ wide.backed (bank0 (wide.sp + zext16 0xFF + 1)) = true := by
  decide +kernel

theorem wit_OperandIsTheLittleEndianValue :
    wide.backed 0xFFFFFF = true ∧ wide.backed (AddrStep.long.next 0xFFFFFF) = true ∧
    wide.backed (AddrStep.bank.next 0x00FFFF) = true ∧ wide.mw = .w16 ∧ emu.xw = .w8 := by decide +kernel

/-- The hypotheses of `Stored`, for the statements on stores and read-modify-write instructions, at both widths. -/
theorem wit_stored :
    (wide.backed (eaAbs 0xFFFF wide).1.addr = true ∧
      (Width.w16 = .w16 → wide.backed ((eaAbs 0xFFFF wide).1.step.next (eaAbs 0xFFFF wide).1.addr) = true)) ∧
    wide.bus.mem.wf = true ∧ wide.ram (eaAbs 0xFFFF wide).1.addr = true ∧
    wide.ram ((eaAbs 0xFFFF wide).1.step.next (eaAbs 0xFFFF wide).1.addr) = true ∧
    (emu.backed (eaDpX 0x01 emu).1.addr = true ∧ emu.ram (eaDpX 0x01 emu).1.addr = true ∧ emu.bus.mem.wf = true) := by
  decide +kernel

/-- The widths of `PushesReg`, and the hypotheses of `PushedWord` with S at either end of its range. -/
theorem wit_PushesWriteTheStack :
    wide.p.m = false ∧ wide.p.x = false ∧ emu.p.m = true ∧ emu.p.x = true ∧
    (emu.backed (bank0 emu.sp) = true ∧ emu.backed (bank0 (below emu.e false emu.sp)) = true) ∧
    emu.bus.mem.wf = true ∧ emu.ram (bank0 emu.sp) = true ∧ emu.ram (bank0 (below emu.e true emu.sp)) = true := by
  decide +kernel

theorem wit_DecimalAddIsBcdAddition :
    bcdValid 2 (natAt .w8 0x0099) = true ∧ bcdValid 4 (natAt .w16 0x9999) = true ∧ bcdValid 4 (natAt .w16 0x0000) = true ∧
    bcdValid 2 (natAt .w8 0x009A) = false := by decide

theorem wit_DecimalSubtractIsBcdSubtraction :
    bcdValid 2 (natAt .w8 0x0000) = true ∧ bcdValid 2 (natAt .w8 0x0001) = true ∧ bcdValid 4 (natAt .w16 0x1000) = true ∧
    bcdValid 4 (natAt .w16 0x0999) = true := by decide

theorem wit_PulledBytesAreThoseAboveS :
    emu.backed (bank0 (above emu.e false 0x01FF)) = true ∧ emu.backed (bank0 (above emu.e true 0x01FF)) = true ∧
    emu.backed (bank0 (above emu.e false (above emu.e false emu.sp))) = true := by decide +kernel

theorem wit_PullAfterPushGivesTheValueBack :
    (emu.bus.mem.wf = true ∧ emu.ram (bank0 emu.sp) = true ∧ emu.ram (bank0 (below emu.e false emu.sp)) = true) ∧
    (wide.bus.mem.wf = true ∧ wide.ram (bank0 wide.sp) = true ∧ wide.ram (bank0 (below wide.e true wide.sp)) = true) := by
  decide +kernel

theorem wit_JumpsReachTheirTargets :
    wide.backed (bank0 0xFFFF) = true ∧ wide.backed (bank0 (0xFFFF + 1)) = true ∧ wide.backed (bank0 (0xFFFF + 2)) = true ∧
    wide.backed (mkAddr wide.pb (0xFFFF + wide.x)) = true ∧ wide.backed (mkAddr wide.pb (0xFFFF + wide.x + 1)) = true := by
  decide +kernel

/-- The stack bytes of the three calls, with S at the bottom of page 1 and the vectors in ROM. -/
theorem wit_CallsPushTheReturnAddress :
    (let s := romVectors emu
     (∀ c ∈ wordCells (linear s 0x20) (s.pc - 1) s, s.backed c.1 = true) ∧
       (∀ c ∈ longCells (linear s 0x22) s.pb (s.pc - 1) s, s.backed c.1 = true) ∧
       (∀ c ∈ wordCells (linear s 0xFC) (s.pc - 1) s, s.backed c.1 = true) ∧ s.bus.mem.wf = true ∧
       ∀ c ∈ longCells (linear s 0x22) s.pb (s.pc - 1) s, s.ram c.1 = true) ∧
    wide.backed (mkAddr wide.pb (0xFFFF + wide.x)) = true ∧ wide.backed (mkAddr wide.pb (0xFFFF + wide.x + 1)) = true := by
  refine ⟨⟨each ?_, each ?_, each ?_, ?_, each ?_⟩, ?_, ?_⟩ <;> decide +kernel

/-- Both modes, with ROM vectors: S at the bottom of page 1 where no opcode is linear, and at the lowest byte each linear
opcode of the candidate set admits. -/
theorem wit_ReturnUndoesTheCall :
    (let s := romVectors wide
     Inv s ∧ (∀ c ∈ wordCells (linear s 0x20) (s.pc - 1) s, s.ram c.1 = true) ∧ StaysInPageOne 0xFC 1 s ∧
       (∀ c ∈ longCells (linear s 0x22) s.pb (s.pc - 1) s, s.ram c.1 = true) ∧ StaysInPageOne 0x22 2 s ∧ StaysInPageOne 0x6B 3 s) ∧
    (let s := romVectors paged
     Inv s ∧ (∀ c ∈ wordCells (linear s 0xFC) (s.pc - 1) s, s.ram c.1 = true) ∧ StaysInPageOne 0xFC 1 s ∧
       (∀ c ∈ longCells (linear s 0x22) s.pb (s.pc - 1) s, s.ram c.1 = true) ∧ StaysInPageOne 0x22 2 s ∧ StaysInPageOne 0x6B 3 s) ∧
    (let s := { romVectors emu with sp := 0x0101 }
     linear s 0xFC = true ∧ StaysInPageOne 0xFC 1 s ∧ ∀ c ∈ wordCells (linear s 0xFC) (s.pc - 1) s, s.ram c.1 = true) ∧
    (let s := { romVectors emu with sp := 0x0103 }
     linear s 0x22 = true ∧ StaysInPageOne 0x22 2 s ∧ StaysInPageOne 0x6B 3 s ∧
       ∀ c ∈ longCells (linear s 0x22) s.pb (s.pc - 1) s, s.ram c.1 = true) := by
  unfold StaysInPageOne
  refine ⟨⟨wit_rom_inv.1, each ?_, ?_, each ?_, ?_, ?_⟩, ⟨wit_rom_inv.2.2, each ?_, ?_, each ?_, ?_, ?_⟩,
    ⟨?_, ?_, each ?_⟩, ⟨?_, ?_, ?_, each ?_⟩⟩ <;> decide +kernel

theorem wit_XceExchangesCarryAndEmulation : wide.p.c = false ∧ { wide.p with c := true }.c = true := by decide +kernel

/-- The vectors in ROM and the frame in RAM, in both modes. -/
theorem wit_InterruptEntrySavesAndVectors :
    (let s := romVectors wide
     s.e = false ∧ s.ram 0x00FFEA = false ∧ s.backed (bank0 (Interrupt.nmi.vector s.e)) = true ∧
       s.backed (bank0 (Interrupt.nmi.vector s.e + 1)) = true ∧ (∀ c ∈ entryFrame .nmi s, s.backed c.1 = true) ∧
       s.bus.mem.wf = true ∧ ∀ c ∈ entryFrame .nmi s, s.ram c.1 = true) ∧
    (let s := romVectors emu
     s.e = true ∧ s.backed (bank0 (Interrupt.irq.vector s.e)) = true ∧
       s.backed (bank0 (Interrupt.irq.vector s.e + 1)) = true ∧ (∀ c ∈ entryFrame .irq s, s.backed c.1 = true) ∧
       s.bus.mem.wf = true ∧ ∀ c ∈ entryFrame .irq s, s.ram c.1 = true) := by
  refine ⟨⟨?_, ?_, ?_, ?_, each ?_, ?_, each ?_⟩, ?_, ?_, ?_, each ?_, ?_, each ?_⟩ <;> decide +kernel

theorem wit_RtiUndoesTheEntry :
    (Inv (romVectors wide) ∧ ∀ c ∈ entryFrame .brk (romVectors wide), (romVectors wide).ram c.1 = true) ∧
    (Inv (romVectors emu) ∧ ∀ c ∈ entryFrame .nmi (romVectors emu), (romVectors emu).ram c.1 = true) :=
  ⟨⟨wit_rom_inv.1, each (by decide +kernel)⟩, ⟨wit_rom_inv.2.1, each (by decide +kernel)⟩⟩

theorem wit_BlockMoveMovesOneByte :
    wide.backed (mkAddr 0x7E wide.x) = true ∧ wide.backed (mkAddr 0x7F wide.y) = true ∧ wide.bus.mem.wf = true ∧
    wide.ram (mkAddr 0x7F wide.y) = true := by decide +kernel

/-- Each register of `ModeAndBankRegisterWriters` is changed by an instruction its clause names. -/
theorem wit_ModeAndBankRegisterWriters :
    (∃ t, exec .xce { wide with p := { wide.p with c := true } } = .next t ∧ t.e ≠ wide.e) ∧
    (∃ t, exec .tcd wide = .next t ∧ t.d ≠ wide.d) ∧ (∃ t, exec (.mvn 0x01 0x02) wide = .next t ∧ t.db ≠ wide.db) ∧
    (∃ t, exec (.jsl 0x123456) wide = .next t ∧ t.pb ≠ wide.pb) :=
  ⟨⟨_, rfl, by decide +kernel⟩, ⟨_, rfl, by decide +kernel⟩, ⟨_, rfl, by decide +kernel⟩, ⟨_, rfl, by decide +kernel⟩⟩

/-- Each flag of `FlagWriterTable` is changed by an instruction its clause names. -/
theorem wit_FlagWriterTable :
    (∃ t, exec (.ldaImm (.b16 0x8000)) wide = .next t ∧ t.p.n ≠ wide.p.n) ∧
    (∃ t, exec (.ldaImm (.b16 0x0000)) wide = .next t ∧ t.p.z ≠ wide.p.z) ∧
    (∃ t, exec (.sep 0x40) wide = .next t ∧ t.p.v ≠ wide.p.v) ∧ (∃ t, exec (.sep 0x20) wide = .next t ∧ t.p.m ≠ wide.p.m) ∧
    (∃ t, exec (.sep 0x10) wide = .next t ∧ t.p.x ≠ wide.p.x) ∧ (∃ t, exec .sed wide = .next t ∧ t.p.d ≠ wide.p.d) ∧
    (∃ t, exec .cli wide = .next t ∧ t.p.i ≠ wide.p.i) ∧ (∃ t, exec .sec wide = .next t ∧ t.p.c ≠ wide.p.c) ∧
    (∃ t, exec (.bitImm (.b16 0xC000)) wide = .next t) :=
  ⟨⟨_, rfl, by decide +kernel⟩, ⟨_, rfl, by decide +kernel⟩, ⟨_, rfl, by decide +kernel⟩, ⟨_, rfl, by decide +kernel⟩,
    ⟨_, rfl, by decide +kernel⟩, ⟨_, rfl, by decide +kernel⟩, ⟨_, rfl, by decide +kernel⟩, ⟨_, rfl, by decide +kernel⟩, ⟨_, rfl⟩⟩

/-- The hypotheses of `StepRunsTheDecodedInstruction`, with the instruction wrapping at the end of its bank. -/
theorem wit_StepRunsTheDecodedInstruction :
    let s := withCode { wide with pc := 0xFFFE } [0xA9, 0x34, 0x12]
    s.resetPending = false ∧ s.run = .running ∧ s.nmiPending = false ∧ (s.irqLine = true → s.iPoll = true) ∧
    (∀ k, k < 3 → s.backed (mkAddr s.pb (s.pc + BitVec.ofNat 16 k)) = true) ∧
    decode ⟨s.p.m, s.p.x⟩ (codeAt s 3) = .ok (.ldaImm (.b16 0x1234), []) :=
  ⟨rfl, rfl, rfl, fun _ => rfl, fun _ _ => rfl, rfl⟩

theorem wit_ResetForcesItsValues :
    State.powerOn.resetPending = true ∧ { wide with resetPending := true, resetKind := .soft }.resetPending = true ∧
    { wide with resetPending := true, resetKind := .soft }.resetKind = .soft ∧
    wide.backed 0x00FFFC = true ∧ wide.backed 0x00FFFD = true := by decide +kernel

theorem wit_BoundaryEventsInPriorityOrder :
    (wide.resetPending = false ∧ wide.run = .running ∧ wide.nmiPending = false ∧ (wide.irqLine = true → wide.iPoll = true)) ∧
    ({ wide with nmiPending := true }.nmiPending = true) ∧ ({ wide with resetPending := true }.resetPending = true) ∧
    ({ wide with irqLine := true, iPoll := false }.irqLine = true ∧ { wide with irqLine := true, iPoll := false }.iPoll = false) ∧
    ({ wide with irqLine := true, iPoll := true }.irqLine = true → { wide with irqLine := true, iPoll := true }.iPoll = true) := by
  decide +kernel

theorem wit_StoppedAndWaitingStates :
    wide.params.wf = true ∧ wide.resetPending = false ∧ { wide with run := .stopped }.run = .stopped ∧
    ({ wide with run := .waiting }.run = .waiting ∧ { wide with run := .waiting }.nmiPending = false ∧
      { wide with run := .waiting }.irqLine = false) ∧
    ({ wide with run := .waiting, irqLine := true }.irqLine = true ∧ { wide with run := .waiting, irqLine := true }.p.i = true) ∧
    ({ wide with run := .waiting, nmiPending := true }.nmiPending = true) := by decide +kernel

/-- Each clause of `WorkedCycleCosts` has a state that meets its conditions: a pointer with and without a page crossing, a
branch to another page and within its page. -/
theorem wit_WorkedCycleCosts :
    (wide.p.m = false ∧ lo wide.d ≠ 0x00 ∧ lo { wide with d := 0x0100 }.d = 0x00) ∧
    (let s (low : Byte) : State := { emu with d := 0x0001, db := 0x7E, bus := { emu.bus with mem := [(0x000011, low)] } }
     (s 0xFF).p.m = true ∧ (s 0xFF).p.x = true ∧ lo (s 0xFF).d ≠ 0x00 ∧
       pageOf (eaDpIndY 0x10 (s 0xFF)).1.addr ≠ pageOf (mkAddr 0x7E (dpPointer 0x10 0 (s 0xFF)).1) ∧
       pageOf (eaDpIndY 0x10 (s 0xFE)).1.addr = pageOf (mkAddr 0x7E (dpPointer 0x10 0 (s 0xFE)).1)) ∧
    (emu.p.z = false ∧ emu.e = true ∧ hi (emu.pc + (0xFF : Byte).signExtend 16) ≠ hi emu.pc ∧
      hi (emu.pc + (0x7F : Byte).signExtend 16) = hi emu.pc) ∧
    { emu.p with z := true }.z = true := by decide +kernel

theorem wit_EveryStepKeepsTheInvariant :
    Inv (withCode emu [0x48]) ∧ ∃ t, step (withCode emu [0x48]) = .next t :=
  ⟨by constructor <;> decide +kernel, ⟨_, rfl⟩⟩

theorem wit_RunsFromTheInvariantAreSafe : Inv emu ∧ Inv wide := ⟨wit_emu_inv, wit_wide_inv⟩

/-- The last clause by a state that differs from `wide` in every register but has its bus, IRQ line and parameters. -/
theorem wit_OutsideInputsKeepTheInvariant :
    Inv wide ∧ Inv emu ∧ (0x7E0000 : Addr) ≠ 0x7E0001 ∧
    (let t : State := { emu with bus := { wide.bus with log := [.read 0x000000 0x00] } }
     t.save ≠ wide.save ∧ t.bus.mem = wide.bus.mem ∧ t.bus.regions = wide.bus.regions ∧
       t.bus.devices = wide.bus.devices ∧ t.irqLine = wide.irqLine ∧ t.params = wide.params ∧
       t.resetKind = wide.resetKind) :=
  ⟨wit_wide_inv, wit_emu_inv, by decide, by decide +kernel⟩

end Sys2Proof.Tests
end

section
/-! SUPPORT and PROOFS. Addressing modes (40_addressing_modes.md): addresses and their steps as numbers, then O10 and O11. -/

namespace Sys2Proof.Machine

/-! The fields of a 24-bit address as numbers (R11). -/

theorem toNat_zext16 (b : Byte) : (zext16 b).toNat = b.toNat :=
  BitVec.toNat_setWidth_of_le (by decide)

theorem toNat_mkAddr (b : Byte) (o : Word) : (mkAddr b o).toNat = b.toNat * 65536 + o.toNat := by
  have e : (b ++ o).toNat = b.toNat <<< 16 ||| o.toNat := BitVec.toNat_append b o
  rw [mkAddr, e, ← Nat.shiftLeft_add_eq_or_of_lt o.isLt, Nat.shiftLeft_eq]

theorem toNat_bank0 (o : Word) : (bank0 o).toNat = o.toNat := by simp [bank0, toNat_mkAddr]

theorem toNat_offOf (a : Addr) : (offOf a).toNat = a.toNat % 65536 := by simp [offOf]

theorem toNat_bankOf (a : Addr) : (bankOf a).toNat = a.toNat / 65536 := by
  have := a.isLt
  simp only [bankOf, BitVec.extractLsb'_toNat, Nat.shiftRight_eq_div_pow]
  omega

/-! The steps to the next byte (R84, R151). -/

theorem AddrStep.toNat_next_long (a : Addr) : (AddrStep.long.next a).toNat = (a.toNat + 1) % 16777216 := by
  simp [AddrStep.next]

theorem AddrStep.toNat_next_bank (a : Addr) :
    (AddrStep.bank.next a).toNat = a.toNat / 65536 * 65536 + (a.toNat % 65536 + 1) % 65536 := by
  simp [AddrStep.next, toNat_mkAddr, toNat_bankOf, toNat_offOf]

theorem AddrStep.toNat_next_page (a : Addr) :
    (AddrStep.page.next a).toNat = a.toNat / 256 * 256 + (a.toNat % 256 + 1) % 256 := by
  have low : (lo (offOf a) + 1).toNat = (a.toNat % 256 + 1) % 256 := by
    simp [toNat_lo, toNat_offOf]
  simp only [AddrStep.next, toNat_mkAddr, toNat_bankOf, toNat_pair, toNat_hi, toNat_offOf, low]
  omega

/-- R153: an index register is added modulo 2^24. -/
theorem toNat_addIndex (a : Addr) (idx : Word) : (addIndex a idx).toNat = (a.toNat + idx.toNat) % 16777216 := by
  simp [addIndex]

/-! The direct page (R151). -/

theorem legacyPage_iff (s : State) : s.legacyPage = true ↔ s.e = true ∧ lo s.d = 0x00 := by
  simp [State.legacyPage]

theorem dpStep_legacy {s : State} (h : s.legacyPage = true) : dpStep s = .page := if_pos h

theorem dpStep_not_legacy {s : State} (h : ¬ s.legacyPage = true) : dpStep s = .bank := if_neg h

theorem toNat_dpAddr_legacy {s : State} (h : s.legacyPage = true) (d : Byte) (idx : Word) :
    (dpAddr s d idx).toNat = s.d.toNat / 256 * 256 + (d.toNat + idx.toNat) % 256 := by
  have low : (lo (zext16 d + idx)).toNat = (d.toNat + idx.toNat) % 256 := by
    rw [toNat_lo, BitVec.toNat_add, toNat_zext16]; omega
  rw [dpAddr, if_pos h, toNat_bank0, toNat_pair, toNat_hi, low]

theorem toNat_dpAddr_not_legacy {s : State} (h : ¬ s.legacyPage = true) (d : Byte) (idx : Word) :
    (dpAddr s d idx).toNat = (s.d.toNat + d.toNat + idx.toNat) % 65536 := by
  rw [dpAddr, if_neg h, toNat_bank0, BitVec.toNat_add, BitVec.toNat_add, toNat_zext16]; omega

/-- The direct page is never outside bank 0. -/
theorem toNat_dpAddr_lt (s : State) (d : Byte) (idx : Word) : (dpAddr s d idx).toNat < 65536 := by
  unfold dpAddr
  split <;> (rw [toNat_bank0]; exact BitVec.isLt _)

/-! The stack-relative address (R174). -/

theorem toNat_bank0_add_zext16 (v : Word) (n : Byte) :
    (bank0 (v + zext16 n)).toNat = (v.toNat + n.toNat) % 65536 := by
  rw [toNat_bank0, BitVec.toNat_add, toNat_zext16]

end Sys2Proof.Machine

namespace Sys2Proof.Claim
open Sys2Proof.Machine

/-- Settles O10: the statement's two cases are `legacy_page` (R151) and its complement. -/
theorem directPageAddressWraps : Obligations.DirectPageAddressWraps := by
  intro s d idx p
  rw [← legacyPage_iff]
  refine ⟨fun h => ⟨toNat_dpAddr_legacy h d idx, ?_⟩, fun h => ⟨toNat_dpAddr_not_legacy h d idx, ?_⟩,
    toNat_dpAddr_lt s d idx⟩
  · rw [dpStep_legacy h, AddrStep.toNat_next_page]
  · rw [dpStep_not_legacy h, AddrStep.toNat_next_bank]

/-- Settles O11: each mode is by definition an address and a step beside the unchanged state; the numbers are those of
`mkAddr`, `addIndex` and `bank0`. -/
theorem directAbsoluteAndStackModes : Obligations.DirectAbsoluteAndStackModes := by
  intro s d a al
  have indexed (idx : Word) : (addIndex (mkAddr s.db a) idx).toNat =
      (s.db.toNat * 65536 + a.toNat + idx.toNat) % 16777216 := by
    rw [toNat_addIndex, toNat_mkAddr]
  exact ⟨rfl, rfl, rfl,
    ⟨_, rfl, rfl, toNat_mkAddr s.db a⟩, ⟨_, rfl, rfl, indexed s.x⟩, ⟨_, rfl, rfl, indexed s.y⟩,
    rfl, ⟨_, rfl, rfl, toNat_addIndex al s.x⟩, ⟨_, rfl, rfl, toNat_bank0_add_zext16 s.sp d⟩⟩

end Sys2Proof.Claim
end

section
/-! SUPPORT and PROOFS. Loads and stores (41_load_store.md): results at the width of a flag, what a store does to memory,
then O14 to O17. -/

namespace Sys2Proof.Machine

/-- The bytes of a long operand, as the address's fields (R122). -/
theorem longBytes_eq (al : Addr) : longBytes al = [lo (offOf al), hi (offOf al), bankOf al] := by
  simp [longBytes, lo, hi, offOf, bankOf, BitVec.extractLsb'_extractLsb'_of_le]

/-! A store read back (R85). -/

/-- The low byte of a store to RAM reads back: the high byte goes to another address, which is RAM or ROM. -/
theorem Bus.writeW_low (b : Bus) (w : Width) (st : AddrStep) (a : Addr) (v : Word) (hk : b.kindAt a = .ram)
    (hk' : w = .w16 → b.kindAt (st.next a) ≠ .device) (h : b.mem.wf = true) :
    (b.writeW w st a v).mem.read a.toNat = lo v := by
  cases w with
  | w8 => exact Bus.write8_same b a (lo v) hk h
  | w16 =>
    have hnext : (b.write8 a (lo v)).kindAt (st.next a) ≠ .device := by simpa using hk' rfl
    rw [Bus.writeW, Bus.write8_other _ _ _ _ hnext (AddrStep.next_ne st a).symm, Bus.write8_same b a (lo v) hk h]

/-- The high byte of a 16-bit store to RAM reads back: it is written last. -/
theorem Bus.writeW_high (b : Bus) (st : AddrStep) (a : Addr) (v : Word) (hk : b.kindAt (st.next a) = .ram)
    (h : b.mem.wf = true) : (b.writeW .w16 st a v).mem.read (st.next a).toNat = hi v :=
  Bus.write8_same _ _ _ (by simpa using hk) (Bus.write8_wf b a (lo v) h)

theorem State.backed_iff (s : State) (a : Addr) : s.backed a = true ↔ s.bus.kindAt a ≠ .device := by
  simp [State.backed]

theorem State.ram_iff (s : State) (a : Addr) : s.ram a = true ↔ s.bus.kindAt a = .ram := by
  simp [State.ram]

end Sys2Proof.Machine

namespace Sys2Proof.Claim
open Sys2Proof.Machine

/-! The model's operations at a width, in the words of the statements (R44, R45). -/

theorem setAcc_c (v : Word) (s : State) : (s.setAcc v).c = accResult s.p.m s.c v := by
  cases h : s.p.m <;> simp [State.setAcc, State.mw, widthOf, accResult, h]

theorem trunc_widthOf (narrow : Bool) (v : Word) : (widthOf narrow).trunc v = indexResult narrow v := by
  cases narrow <;> rfl

theorem zext16_eq_zero_iff (b : Byte) : zext16 b = 0 ↔ b = 0x00 :=
  ⟨fun h => (lo_zext16 b).symm.trans (congrArg lo h), fun h => h ▸ rfl⟩

theorem setNZ_widthOf (narrow : Bool) (v : Word) (p : Flags) : setNZ (widthOf narrow) v p = nzFrom narrow v p := by
  cases narrow with
  | false => rfl
  | true => simp only [setNZ, nzFrom, widthOf, if_true, Width.msb, topBit, Width.trunc, isZero, beq_eq_decide,
      zext16_eq_zero_iff]

/-! Memory after a read and after a store. -/

theorem sameMemory_of_mem_eq {s t : State} (h : t.bus.mem = s.bus.mem) : SameMemory s t :=
  fun a => congrArg (Memory.read · a.toNat) h

/-- A store after the reads of its addressing mode: what backs an address is as before the reads. -/
theorem stored_of_writeW {w : Width} {ea : EA} {v : Word} {s u t : State} (hu : OnlyReads s u)
    (ht : t.bus = u.bus.writeW w ea.step ea.addr v) : Stored w ea v s t := by
  simp only [Stored, State.backed_iff, State.ram_iff, ← hu.kindAt, ← hu.memory, ← hu.peek]
  rintro ⟨hlow, hhigh⟩
  simp only [State.peek, ht]
  refine ⟨fun a hne hne' => Bus.writeW_other _ _ _ _ _ _ hlow hhigh hne hne', fun hwf hram => ?_, fun hwf hw hram => ?_⟩
  · exact Bus.writeW_low _ _ _ _ _ hram hhigh hwf
  · subst hw
    exact Bus.writeW_high _ _ _ _ hram hwf

/-! One form of each instruction: its arm of `exec` is a shape of R200 to R206 over an operand, or a mode, that only
reads. -/

section Forms

variable {i : Instr} {s : State}

theorem lda_form {operand : State → Word × State} (h : OnlyReads s (operand s).2)
    (hexec : exec i s = .next (accOp ldaOp operand s)) :
    ∃ t, exec i s = .next t ∧
      t = { s with
            c := accResult s.p.m s.c (operand s).1, p := nzFrom s.p.m (operand s).1 s.p, bus := (operand s).2.bus } ∧
      SameMemory s t := by
  refine ⟨_, hexec.trans ?_, rfl, sameMemory_of_mem_eq h.memory⟩
  simp only [accOp_eq _ _ _ h, ldaOp, setAcc_c, State.mw, setNZ_widthOf]

theorem ldx_form {operand : State → Word × State} (h : OnlyReads s (operand s).2)
    (hexec : exec i s = .next (loadX operand s)) :
    ∃ t, exec i s = .next t ∧
      t = { s with
            x := indexResult s.p.x (operand s).1, p := nzFrom s.p.x (operand s).1 s.p, bus := (operand s).2.bus } ∧
      SameMemory s t := by
  refine ⟨_, hexec.trans ?_, rfl, sameMemory_of_mem_eq h.memory⟩
  simp only [loadX_eq _ _ h, State.xw, trunc_widthOf, setNZ_widthOf]

theorem ldy_form {operand : State → Word × State} (h : OnlyReads s (operand s).2)
    (hexec : exec i s = .next (loadY operand s)) :
    ∃ t, exec i s = .next t ∧
      t = { s with
            y := indexResult s.p.x (operand s).1, p := nzFrom s.p.x (operand s).1 s.p, bus := (operand s).2.bus } ∧
      SameMemory s t := by
  refine ⟨_, hexec.trans ?_, rfl, sameMemory_of_mem_eq h.memory⟩
  simp only [loadY_eq _ _ h, State.xw, trunc_widthOf, setNZ_widthOf]

theorem store_form (w : State → Width) (reg : State → Word) {ea : State → EA × State} (h : OnlyReads s (ea s).2)
    (hexec : exec i s = .next (store w reg ea s)) :
    ∃ t, exec i s = .next t ∧
      t = { s with bus := (ea s).2.bus.writeW (w s) (ea s).1.step (ea s).1.addr (reg s) } ∧
      Stored (w s) (ea s).1 (reg s) s t :=
  ⟨_, hexec.trans (congrArg _ (store_eq w reg ea s h)), rfl, stored_of_writeW h rfl⟩

end Forms

/-- Settles O14: every form is `accOp ldaOp` over an operand that only reads. -/
theorem ldaLoadsTheAccumulator : Obligations.LdaLoadsTheAccumulator := by
  intro s
  have mem {ea : State → EA × State} (h : OnlyReads s (ea s).2) := memOperand_onlyReads State.mw ea s h
  exact ⟨fun d => ⟨rfl, lda_form (mem (eaDpIndX_onlyReads d s)) rfl⟩,
    fun n => ⟨rfl, lda_form (mem (eaSr_onlyReads n s)) rfl⟩,
    fun d => ⟨rfl, lda_form (mem (eaDp_onlyReads d s)) rfl⟩,
    fun d => ⟨rfl, lda_form (mem (eaDpIndL_onlyReads 0xA7 d s)) rfl⟩,
    fun v => ⟨rfl, lda_form (immOperand_onlyReads State.mw v s) rfl⟩,
    fun a => ⟨rfl, lda_form (mem (eaAbs_onlyReads a s)) rfl⟩,
    fun al => ⟨congrArg (0xAF :: ·) (longBytes_eq al), lda_form (mem (eaAbsL_onlyReads al s)) rfl⟩,
    fun d => ⟨rfl, lda_form (mem (eaDpIndY_onlyReads d s)) rfl⟩,
    fun d => ⟨rfl, lda_form (mem (eaDpInd_onlyReads d s)) rfl⟩,
    fun n => ⟨rfl, lda_form (mem (eaSrIndY_onlyReads n s)) rfl⟩,
    fun d => ⟨rfl, lda_form (mem (eaDpX_onlyReads d s)) rfl⟩,
    fun d => ⟨rfl, lda_form (mem (eaDpIndLY_onlyReads 0xB7 d s)) rfl⟩,
    fun a => ⟨rfl, lda_form (mem (eaAbsY_onlyReads a s)) rfl⟩,
    fun a => ⟨rfl, lda_form (mem (eaAbsX_onlyReads a s)) rfl⟩,
    fun al => ⟨congrArg (0xBF :: ·) (longBytes_eq al), lda_form (mem (eaAbsLX_onlyReads al s)) rfl⟩⟩

/-- Settles O15: every form is `loadX` or `loadY` over an operand that only reads. -/
theorem ldxLdyLoadTheIndexRegister : Obligations.LdxLdyLoadTheIndexRegister := by
  intro s
  have mem {ea : State → EA × State} (h : OnlyReads s (ea s).2) := memOperand_onlyReads State.xw ea s h
  have imm (v : Imm) := immOperand_onlyReads State.xw v s
  constructor
  · exact ⟨fun v => ⟨rfl, ldx_form (imm v) rfl⟩,
      fun d => ⟨rfl, ldx_form (mem (eaDp_onlyReads d s)) rfl⟩,
      fun a => ⟨rfl, ldx_form (mem (eaAbs_onlyReads a s)) rfl⟩,
      fun d => ⟨rfl, ldx_form (mem (eaDpY_onlyReads d s)) rfl⟩,
      fun a => ⟨rfl, ldx_form (mem (eaAbsY_onlyReads a s)) rfl⟩⟩
  · exact ⟨fun v => ⟨rfl, ldy_form (imm v) rfl⟩,
      fun d => ⟨rfl, ldy_form (mem (eaDp_onlyReads d s)) rfl⟩,
      fun a => ⟨rfl, ldy_form (mem (eaAbs_onlyReads a s)) rfl⟩,
      fun d => ⟨rfl, ldy_form (mem (eaDpX_onlyReads d s)) rfl⟩,
      fun a => ⟨rfl, ldy_form (mem (eaAbsX_onlyReads a s)) rfl⟩⟩

/-- Settles O16: every form is `store` of C at the width of m, over a mode that only reads. -/
theorem staStoresTheAccumulator : Obligations.StaStoresTheAccumulator := by
  intro s
  exact ⟨fun d => ⟨rfl, store_form State.mw State.c (eaDpIndX_onlyReads d s) rfl⟩,
    fun n => ⟨rfl, store_form State.mw State.c (eaSr_onlyReads n s) rfl⟩,
    fun d => ⟨rfl, store_form State.mw State.c (eaDp_onlyReads d s) rfl⟩,
    fun d => ⟨rfl, store_form State.mw State.c (eaDpIndL_onlyReads 0x87 d s) rfl⟩,
    fun a => ⟨rfl, store_form State.mw State.c (eaAbs_onlyReads a s) rfl⟩,
    fun al => ⟨congrArg (0x8F :: ·) (longBytes_eq al), store_form State.mw State.c (eaAbsL_onlyReads al s) rfl⟩,
    fun d => ⟨rfl, store_form State.mw State.c (eaDpIndY_onlyReads d s) rfl⟩,
    fun d => ⟨rfl, store_form State.mw State.c (eaDpInd_onlyReads d s) rfl⟩,
    fun n => ⟨rfl, store_form State.mw State.c (eaSrIndY_onlyReads n s) rfl⟩,
    fun d => ⟨rfl, store_form State.mw State.c (eaDpX_onlyReads d s) rfl⟩,
    fun d => ⟨rfl, store_form State.mw State.c (eaDpIndLY_onlyReads 0x97 d s) rfl⟩,
    fun a => ⟨rfl, store_form State.mw State.c (eaAbsY_onlyReads a s) rfl⟩,
    fun a => ⟨rfl, store_form State.mw State.c (eaAbsX_onlyReads a s) rfl⟩,
    fun al => ⟨congrArg (0x9F :: ·) (longBytes_eq al), store_form State.mw State.c (eaAbsLX_onlyReads al s) rfl⟩⟩

/-- Settles O17: every form is `store` of X or Y at the width of x, or of zero at the width of m. -/
theorem stxStyStzStoreTheirValue : Obligations.StxStyStzStoreTheirValue := by
  intro s
  refine ⟨?stx, ?sty, ?stz⟩
  case stx =>
    exact ⟨fun d => ⟨rfl, store_form State.xw State.x (eaDp_onlyReads d s) rfl⟩,
      fun a => ⟨rfl, store_form State.xw State.x (eaAbs_onlyReads a s) rfl⟩,
      fun d => ⟨rfl, store_form State.xw State.x (eaDpY_onlyReads d s) rfl⟩⟩
  case sty =>
    exact ⟨fun d => ⟨rfl, store_form State.xw State.y (eaDp_onlyReads d s) rfl⟩,
      fun a => ⟨rfl, store_form State.xw State.y (eaAbs_onlyReads a s) rfl⟩,
      fun d => ⟨rfl, store_form State.xw State.y (eaDpX_onlyReads d s) rfl⟩⟩
  case stz =>
    exact ⟨fun d => ⟨rfl, store_form State.mw (fun _ => 0x0000) (eaDp_onlyReads d s) rfl⟩,
      fun d => ⟨rfl, store_form State.mw (fun _ => 0x0000) (eaDpX_onlyReads d s) rfl⟩,
      fun a => ⟨rfl, store_form State.mw (fun _ => 0x0000) (eaAbs_onlyReads a s) rfl⟩,
      fun a => ⟨rfl, store_form State.mw (fun _ => 0x0000) (eaAbsX_onlyReads a s) rfl⟩⟩

end Sys2Proof.Claim
end

section
/-! SUPPORT and PROOFS. Register transfers (42_transfer.md): a value into a register with its n and z, as one update in the
words of the statements, then O29 and O30. -/

namespace Sys2Proof.Claim
open Sys2Proof.Machine

/-! A value into a register at the width of a flag, with its n and z (R44, R45). -/

theorem nz_widthOf (narrow : Bool) (v : Word) (s : State) :
    s.nz (widthOf narrow) v = { s with p := nzFrom narrow v s.p } :=
  congrArg s.withP (setNZ_widthOf narrow v s.p)

theorem toX_eq (v : Word) (s : State) :
    toX v s = { s with x := indexResult s.p.x v, p := nzFrom s.p.x v s.p } := by
  rw [← trunc_widthOf]
  exact nz_widthOf s.p.x v (s.setX v)

theorem toY_eq (v : Word) (s : State) :
    toY v s = { s with y := indexResult s.p.x v, p := nzFrom s.p.x v s.p } := by
  rw [← trunc_widthOf]
  exact nz_widthOf s.p.x v (s.setY v)

theorem toAcc_eq (v : Word) (s : State) :
    toAcc v s = { s with c := accResult s.p.m s.c v, p := nzFrom s.p.m v s.p } := by
  rw [← setAcc_c]
  exact nz_widthOf s.p.m v (s.setAcc v)

/-- Settles O29: every transfer is `toX`, `toY` or `toAcc` of its source, and so works at the destination's width. -/
theorem transfersFollowTheDestinationWidth : Obligations.TransfersFollowTheDestinationWidth := by
  intro s
  refine ⟨⟨rfl, rfl, rfl, rfl, rfl, rfl, rfl⟩, ?tax, ?tay, ?tsx, ?txy, ?tyx, ?txa, ?tya⟩
  case tax => exact congrArg Host.Outcome.next (toX_eq s.c s)
  case tay => exact congrArg Host.Outcome.next (toY_eq s.c s)
  case tsx => exact congrArg Host.Outcome.next (toX_eq s.sp s)
  case txy => exact congrArg Host.Outcome.next (toY_eq s.x s)
  case tyx => exact congrArg Host.Outcome.next (toX_eq s.y s)
  case txa => exact congrArg Host.Outcome.next (toAcc_eq s.x s)
  case tya => exact congrArg Host.Outcome.next (toAcc_eq s.y s)

/-- Settles O30: TXS and TCS are `setS`, which touches S alone; the others set n and z at a width of their own, 16 bits
or, for XBA, 8, whatever m is. -/
theorem wideTransfersMoveSixteenBits : Obligations.WideTransfersMoveSixteenBits := by
  intro s
  refine ⟨⟨rfl, rfl, rfl, rfl, rfl, rfl⟩, ?txs, ?tcs, ?tcd, ?tdc, ?tsc, ?xba⟩
  case txs => rfl
  case tcs => rfl
  case tcd => exact congrArg Host.Outcome.next (nz_widthOf false s.c (s.withD s.c))
  case tdc => exact congrArg Host.Outcome.next (nz_widthOf false s.d (s.withC s.d))
  case tsc => exact congrArg Host.Outcome.next (nz_widthOf false s.sp (s.withC s.sp))
  case xba => exact congrArg Host.Outcome.next (nz_widthOf true (zext16 (hi s.c)) (s.withC (pair (lo s.c) (hi s.c))))

end Sys2Proof.Claim
end

section
/-! SUPPORT and PROOFS. The stack (43_stack.md): bytes written in a row, a push and a pull in the words of the statements,
then O31 and O32. -/

namespace Sys2Proof.Machine

/-! Bytes written in a row (R82, R88). -/

/-- The bytes of `cells` written one after the other, the first of the list first. -/
def Bus.writeCells : List (Addr × Byte) → Bus → Bus
  | [], b => b
  | c :: cs, b => Bus.writeCells cs (b.write8 c.1 c.2)

/-- Where all of them go to RAM or ROM, every other byte keeps its value. -/
theorem Bus.writeCells_other (a : Addr) : ∀ (cells : List (Addr × Byte)) (b : Bus),
    (∀ c ∈ cells, b.kindAt c.1 ≠ .device) → (∀ c ∈ cells, a ≠ c.1) →
    (Bus.writeCells cells b).mem.read a.toNat = b.mem.read a.toNat
  | [], _, _, _ => rfl
  | c :: cs, b, hk, ha => by
    obtain ⟨hkc, hks⟩ := List.forall_mem_cons.1 hk
    obtain ⟨hac, has⟩ := List.forall_mem_cons.1 ha
    rw [Bus.writeCells, Bus.writeCells_other a cs _ (by simpa using hks) has, Bus.write8_other b c.1 a c.2 hkc hac]

/-- Where they go to different addresses, each that goes to RAM reads back: the later ones go elsewhere. -/
theorem Bus.writeCells_same : ∀ (cells : List (Addr × Byte)) (b : Bus),
    (∀ c ∈ cells, b.kindAt c.1 ≠ .device) → (cells.map Prod.fst).Nodup → b.mem.wf = true →
    ∀ c ∈ cells, b.kindAt c.1 = .ram → (Bus.writeCells cells b).mem.read c.1.toNat = c.2
  | [], _, _, _, _ => nofun
  | c :: cs, b, hk, hd, hwf => by
    obtain ⟨-, hks⟩ := List.forall_mem_cons.1 hk
    obtain ⟨hnew, hds⟩ := List.nodup_cons.1 hd
    have hks' : ∀ c' ∈ cs, (b.write8 c.1 c.2).kindAt c'.1 ≠ .device := by simpa using hks
    refine List.forall_mem_cons.2 ⟨?first, ?later⟩
    case first =>
      intro hram
      have hne : ∀ c' ∈ cs, c.1 ≠ c'.1 := fun c' hc' e => hnew (e ▸ List.mem_map_of_mem hc')
      rw [Bus.writeCells, Bus.writeCells_other c.1 cs _ hks' hne, Bus.write8_same b c.1 c.2 hram hwf]
    case later =>
      intro c' hc' hram
      exact Bus.writeCells_same cs _ hks' hds (Bus.write8_wf b c.1 c.2 hwf) c' hc' (by simpa using hram)

/-- A push moves S. -/
theorem stackDown_ne (e lin : Bool) (v : Word) : stackDown e lin v ≠ v := by
  have := v.isLt
  rw [Ne, ← BitVec.toNat_inj, stackDown_toNat]
  split <;> omega

/-! What a pull does to the state (R88). -/

/-- What an operation that only pulls does to the state: S moves, the bus log and the devices may, memory and everything
else stay. -/
structure OnlyPulls (s t : State) : Prop where
  state  : t = { s with sp := t.sp, bus := t.bus }
  memory : t.bus.mem = s.bus.mem

theorem OnlyPulls.trans {s t u : State} (h : OnlyPulls s t) (h' : OnlyPulls t u) : OnlyPulls s u := by
  refine ⟨?_, h'.memory.trans h.memory⟩
  have e := h'.state
  rw [h.state] at e
  exact e

theorem pull8_onlyPulls (lin : Bool) (s : State) : OnlyPulls s (pull8 lin s).2 := ⟨rfl, pull8_mem lin s⟩

theorem pull16_onlyPulls (lin : Bool) (s : State) : OnlyPulls s (pull16 lin s).2 :=
  (pull8_onlyPulls lin s).trans (pull8_onlyPulls lin _)

theorem pullW_onlyPulls (lin : Bool) (w : Width) (s : State) : OnlyPulls s (pullW lin w s).2 := by
  cases w with
  | w8 => exact pull8_onlyPulls lin s
  | w16 => exact pull16_onlyPulls lin s

end Sys2Proof.Machine

namespace Sys2Proof.Claim
open Sys2Proof.Machine

/-! Pushes in the words of the statements. -/

theorem stackDown_eq_below (e lin : Bool) (v : Word) : stackDown e lin v = below e lin v := by
  cases e <;> cases lin <;> rfl

/-- Bytes written in a row to different addresses, after reads: what backs an address is as before the reads. -/
theorem writesBytes_of_writeCells {cells : List (Addr × Byte)} {s u t : State} (hu : OnlyReads s u)
    (hd : (cells.map Prod.fst).Nodup) (ht : t.bus = u.bus.writeCells cells) : WritesBytes cells s t := by
  simp only [WritesBytes, State.backed_iff, State.ram_iff, ← hu.kindAt, ← hu.memory, ← hu.peek]
  intro hk
  simp only [State.peek, ht]
  exact ⟨fun a => Bus.writeCells_other a cells u.bus hk, Bus.writeCells_same cells u.bus hk hd⟩

theorem wordCells_nodup (lin : Bool) (v : Word) (s : State) : ((wordCells lin v s).map Prod.fst).Nodup := by
  have hne : bank0 s.sp ≠ bank0 (below s.e lin s.sp) := fun h =>
    stackDown_ne s.e lin s.sp ((stackDown_eq_below s.e lin s.sp).trans (bank0_inj.1 h).symm)
  simpa [wordCells] using hne

theorem push16_eq_afterPushWord (lin : Bool) (v : Word) (s : State) : push16 lin v s = afterPushWord lin v s := by
  simp only [push16_eq, stackDown_eq_below, afterPushWord]

/-- A 16-bit push after reads writes the cells of the state before them: reads move no register. -/
theorem pushedWord_afterPushWord {s u : State} (h : OnlyReads s u) (lin : Bool) (v : Word) :
    PushedWord lin v s (afterPushWord lin v u) := by
  have cells : wordCells lin v u = wordCells lin v s := by rw [h.state]; rfl
  exact writesBytes_of_writeCells h (wordCells_nodup lin v s) (cells ▸ rfl)

section Forms

variable {i : Instr} {s : State} {lin : Bool}

theorem push8_form {v : Byte} (hexec : exec i s = .next (push8 lin v s)) : PushesByte i lin v s := by
  refine ⟨_, hexec.trans ?_, rfl, stored_of_writeW (OnlyReads.refl s) ?_⟩
  · rw [push8_eq, stackDown_eq_below]
  · rw [Bus.writeW, lo_zext16]

/-- The pushed value may come from reads (PEI). -/
theorem push16_form {v : Word} {u : State} (h : OnlyReads s u) (hexec : exec i s = .next (push16 lin v u)) :
    ∃ t, exec i s = .next t ∧ t = afterPushWord lin v u ∧ PushedWord lin v s t :=
  ⟨_, hexec.trans (congrArg _ (push16_eq_afterPushWord lin v u)), rfl, pushedWord_afterPushWord h lin v⟩

theorem pushW_form {narrow : Bool} {v : Word} (hexec : exec i s = .next (pushW lin (widthOf narrow) v s)) :
    PushesReg i lin narrow v s := by
  refine ⟨?narrow, ?wide⟩
  case narrow => rintro rfl; exact push8_form hexec
  case wide => rintro rfl; exact push16_form (OnlyReads.refl s) hexec

end Forms

/-- Settles O31: every push is `push8`, `push16` or `pushW` of its value, PEI's after the reads of its direct-page value. -/
theorem pushesWriteTheStack : Obligations.PushesWriteTheStack := by
  intro s v d
  refine ⟨⟨rfl, rfl, rfl, rfl, rfl, rfl, rfl, rfl, rfl, rfl⟩, ?pha, ?phx, ?phy, ?php, ?phb, ?phk, ?phd, ?pea, ?per, ?pei⟩
  case pha => exact pushW_form rfl
  case phx => exact pushW_form rfl
  case phy => exact pushW_form rfl
  case php => exact push8_form rfl
  case phb => exact push8_form rfl
  case phk => exact push8_form rfl
  case phd => exact push16_form (OnlyReads.refl s) rfl
  case pea => exact push16_form (OnlyReads.refl s) rfl
  case per => exact push16_form (OnlyReads.refl s) rfl
  case pei => exact push16_form (read16_onlyReads (ptrStep 0xD4 s) (dpAddr s d 0) s) rfl

/-! A pulled value into its register, as one update of the state before the pull. -/

section Pulled

variable {s t : State} (h : OnlyPulls s t)
include h

theorem toAcc_pulled (v : Word) :
    toAcc v t = { s with c := accResult s.p.m s.c v, p := nzFrom s.p.m v s.p, sp := t.sp, bus := t.bus } := by
  rw [toAcc_eq, h.state]

theorem toX_pulled (v : Word) :
    toX v t = { s with x := indexResult s.p.x v, p := nzFrom s.p.x v s.p, sp := t.sp, bus := t.bus } := by
  rw [toX_eq, h.state]

theorem toY_pulled (v : Word) :
    toY v t = { s with y := indexResult s.p.x v, p := nzFrom s.p.x v s.p, sp := t.sp, bus := t.bus } := by
  rw [toY_eq, h.state]

theorem toDB_pulled (v : Byte) :
    (t.withDB v).nz .w8 (zext16 v) =
      { s with db := v, p := nzFrom true (zext16 v) s.p, sp := t.sp, bus := t.bus } := by
  rw [h.state]
  exact nz_widthOf true (zext16 v) _

theorem toD_pulled (v : Word) :
    (t.withD v).nz .w16 v = { s with d := v, p := nzFrom false v s.p, sp := t.sp, bus := t.bus } := by
  rw [h.state]
  exact nz_widthOf false v _

theorem setP_pulled (b : Byte) :
    t.setP b =
      let f := flagsOfByte s.e b
      { s with
        p := f, sp := t.sp, bus := t.bus
        x := if f.x then zext16 (lo s.x) else s.x, y := if f.x then zext16 (lo s.y) else s.y } := by
  rw [h.state]
  rfl

end Pulled

/-- Settles O32: a pull moves S and reads, memory stays; what is left is the update of the one register, or of P. -/
theorem pullsReadTheStack : Obligations.PullsReadTheStack := by
  intro s
  refine ⟨⟨rfl, rfl, rfl, rfl, rfl, rfl⟩, ?pla, ?plx, ?ply, ?plb, ?pld, ?plp⟩
  case pla =>
    have h := pullW_onlyPulls (linear s 0x68) (widthOf s.p.m) s
    exact ⟨_, congrArg Host.Outcome.next (toAcc_pulled h _), sameMemory_of_mem_eq h.memory, rfl⟩
  case plx =>
    have h := pullW_onlyPulls (linear s 0xFA) (widthOf s.p.x) s
    exact ⟨_, congrArg Host.Outcome.next (toX_pulled h _), sameMemory_of_mem_eq h.memory, rfl⟩
  case ply =>
    have h := pullW_onlyPulls (linear s 0x7A) (widthOf s.p.x) s
    exact ⟨_, congrArg Host.Outcome.next (toY_pulled h _), sameMemory_of_mem_eq h.memory, rfl⟩
  case plb =>
    have h := pull8_onlyPulls (linear s 0xAB) s
    exact ⟨_, congrArg Host.Outcome.next (toDB_pulled h _), sameMemory_of_mem_eq h.memory, rfl⟩
  case pld =>
    have h := pull16_onlyPulls (linear s 0x2B) s
    exact ⟨_, congrArg Host.Outcome.next (toD_pulled h _), sameMemory_of_mem_eq h.memory, rfl⟩
  case plp =>
    have h := pull8_onlyPulls (linear s 0x28) s
    exact ⟨_, congrArg Host.Outcome.next (setP_pulled h _), sameMemory_of_mem_eq h.memory, rfl⟩

end Sys2Proof.Claim
end

section
/-! SUPPORT and PROOFS. Arithmetic (44_arithmetic.md): results, flags and stores that see only the low bits of the width, then
O18, O19, O24, O26 and O28. -/

namespace Sys2Proof.Machine

/-! Truncation to the width (R11). -/

theorem Width.trunc_trunc (w : Width) (v : Word) : w.trunc (w.trunc v) = w.trunc v := by
  cases w with
  | w8 => exact congrArg zext16 (lo_zext16 (lo v))
  | w16 => rfl

/-- Two values agree at 8 bits when their low bytes do. -/
theorem Width.trunc_w8_eq_iff {a b : Word} : Width.w8.trunc a = Width.w8.trunc b ↔ lo a = lo b :=
  ⟨fun h => by simpa [Width.trunc] using congrArg lo h, congrArg zext16⟩

theorem Width.trunc_trunc_sub (w : Width) (a b : Word) : w.trunc (w.trunc a - b) = w.trunc (a - b) := by
  cases w with
  | w16 => rfl
  | w8 =>
    rw [Width.trunc_w8_eq_iff, ← BitVec.toNat_inj, toNat_lo, toNat_lo, BitVec.toNat_sub, BitVec.toNat_sub, Width.trunc,
      toNat_zext16, toNat_lo]
    omega

theorem lo_and (a b : Word) : lo (a &&& b) = lo a &&& lo b := BitVec.extractLsb'_and

theorem lo_or (a b : Word) : lo (a ||| b) = lo a ||| lo b := BitVec.extractLsb'_or

theorem lo_not (a : Word) : lo (~~~a) = ~~~lo a := BitVec.extractLsb'_not_of_lt (by decide)

theorem Width.trunc_trunc_and (w : Width) (a b : Word) : w.trunc (w.trunc a &&& b) = w.trunc (a &&& b) := by
  cases w with
  | w16 => rfl
  | w8 => rw [Width.trunc_w8_eq_iff, lo_and, lo_and, lo_trunc]

theorem Width.trunc_or_trunc (w : Width) (a b : Word) : w.trunc (b ||| w.trunc a) = w.trunc (b ||| a) := by
  cases w with
  | w16 => rfl
  | w8 => rw [Width.trunc_w8_eq_iff, lo_or, lo_or, lo_trunc]

theorem Width.trunc_and_not_trunc (w : Width) (a b : Word) : w.trunc (b &&& ~~~w.trunc a) = w.trunc (b &&& ~~~a) := by
  cases w with
  | w16 => rfl
  | w8 => rw [Width.trunc_w8_eq_iff, lo_and, lo_and, lo_not, lo_not, lo_trunc]

/-! What sees only the low bits of the width (R44, R45, R283, R284). -/

theorem setNZ_congr {w : Width} {a b : Word} (h : w.trunc a = w.trunc b) (p : Flags) : setNZ w a p = setNZ w b p := by
  have hmsb : w.msb a = w.msb b := by
    cases w with
    | w16 => exact congrArg (BitVec.getLsbD · 15) h
    | w8 => simpa [lo, Width.msb] using congrArg (BitVec.getLsbD · 7) (Width.trunc_w8_eq_iff.1 h)
  rw [setNZ, setNZ, hmsb, h]

theorem State.setAcc_congr {s : State} {a b : Word} (h : s.mw.trunc a = s.mw.trunc b) : s.setAcc a = s.setAcc b := by
  unfold State.setAcc
  revert h
  cases s.mw with
  | w16 => exact fun h => congrArg s.withC h
  | w8 => exact fun h => congrArg (fun l => s.withC (pair (hi s.c) l)) (Width.trunc_w8_eq_iff.1 h)

theorem addCore_trunc (w : Width) (a b : Word) (cin dec : Bool) :
    addCore w (w.trunc a) b cin dec = addCore w a b cin dec := by
  rw [addCore, Width.trunc_trunc, addCore]

theorem subCore_trunc (w : Width) (a b : Word) (cin dec : Bool) :
    subCore w (w.trunc a) b cin dec = subCore w a b cin dec := by
  rw [subCore, Width.trunc_trunc, subCore]

theorem cmpOp_trunc (w : Width) (p : Flags) (a m : Word) : cmpOp w p (w.trunc a) m = cmpOp w p a m := by
  rw [cmpOp, Width.trunc_trunc, setNZ_congr (Width.trunc_trunc_sub w a m), cmpOp]

/-! The read and the write-back of a read-modify-write (R84, R86). -/

theorem Bus.trunc_readW (b : Bus) (w : Width) (st : AddrStep) (a : Addr) :
    w.trunc (b.readW w st a).1 = (b.readW w st a).1 := by
  cases w with
  | w8 => exact congrArg zext16 (lo_zext16 (b.read8 a).1)
  | w16 => rfl

theorem Bus.writeRmw_congr {w : Width} {v v' : Word} (h : w.trunc v = w.trunc v') (b : Bus) (st : AddrStep) (a : Addr) :
    b.writeRmw w st a v = b.writeRmw w st a v' := by
  cases w with
  | w8 => exact congrArg (b.write8 a) (Width.trunc_w8_eq_iff.1 h)
  | w16 => exact congrArg (b.writeRmw .w16 st a) h

/-- The low byte of a write-back to RAM reads back: it is written last. -/
theorem Bus.writeRmw_low (b : Bus) (w : Width) (st : AddrStep) (a : Addr) (v : Word) (hk : b.kindAt a = .ram)
    (h : b.mem.wf = true) : (b.writeRmw w st a v).mem.read a.toNat = lo v := by
  cases w with
  | w8 => exact Bus.write8_same b a (lo v) hk h
  | w16 => exact Bus.write8_same _ a (lo v) (by simpa using hk) (Bus.write8_wf b (st.next a) (hi v) h)

/-- The high byte of a 16-bit write-back to RAM reads back: the low byte goes to another address, which is RAM or ROM. -/
theorem Bus.writeRmw_high (b : Bus) (st : AddrStep) (a : Addr) (v : Word) (hk : b.kindAt a ≠ .device)
    (hk' : b.kindAt (st.next a) = .ram) (h : b.mem.wf = true) :
    (b.writeRmw .w16 st a v).mem.read (st.next a).toNat = hi v := by
  rw [Bus.writeRmw, Bus.write8_other _ _ _ _ (by simpa using hk) (AddrStep.next_ne st a),
    Bus.write8_same b (st.next a) (hi v) hk' h]

end Sys2Proof.Machine

namespace Sys2Proof.Claim
open Sys2Proof.Machine

/-! The model's operations at a width, in the words of the statements (R44, R45, R272 to R274). -/

theorem isZero_widthOf (narrow : Bool) (v : Word) : ((widthOf narrow).trunc v == 0) = isZero narrow v := by
  cases narrow with
  | false => rfl
  | true => simp only [widthOf, if_true, Width.trunc, isZero, beq_eq_decide, zext16_eq_zero_iff]

theorem notBelow_widthOf (narrow : Bool) (r m : Word) :
    decide (((widthOf narrow).trunc m).toNat ≤ ((widthOf narrow).trunc r).toNat) = notBelow narrow r m := by
  cases narrow with
  | false => rfl
  | true => simp only [widthOf, if_true, Width.trunc, notBelow, toNat_zext16]

theorem cmpOp_widthOf (narrow : Bool) (p : Flags) (r m : Word) :
    cmpOp (widthOf narrow) p r m = nzFrom narrow (r - m) { p with c := notBelow narrow r m } := by
  rw [cmpOp, setNZ_widthOf, notBelow_widthOf]

/-- ADC and SBC over their core: its result with its n, v, z and c (R270, R271). -/
def aluOp (core : Width → Word → Word → Bool → Bool → AluOut) (w : Width) (p : Flags) (a m : Word) : Word × Flags :=
  let o := core w a m p.c p.d
  (o.value, setNZ w o.value { p with c := o.carry, v := o.overflow })

theorem adcOp_eq_aluOp : adcOp = aluOp addCore := rfl

theorem sbcOp_eq_aluOp : sbcOp = aluOp subCore := rfl

/-- A write-back after the reads of its addressing mode and operand: what backs an address is as before the reads. -/
theorem stored_of_writeRmw {w : Width} {ea : EA} {v : Word} {s u t : State} (hu : OnlyReads s u)
    (ht : t.bus = u.bus.writeRmw w ea.step ea.addr v) : Stored w ea v s t := by
  simp only [Stored, State.backed_iff, State.ram_iff, ← hu.kindAt, ← hu.memory, ← hu.peek]
  rintro ⟨hlow, hhigh⟩
  simp only [State.peek, ht]
  refine ⟨fun a hne hne' => Bus.writeRmw_other _ _ _ _ _ _ hlow hhigh hne hne', fun hwf hram => ?_, fun hwf hw hram => ?_⟩
  · exact Bus.writeRmw_low _ _ _ _ _ hram hwf
  · subst hw
    exact Bus.writeRmw_high _ _ _ _ hlow hram hwf

/-- The model's read-modify-write operation `f` and the statement's `g` agree on every value of the width: one flags, one
result at the width. -/
def Agrees (f : Width → Flags → Word → Word × Flags) (g : Word → Word × Flags) (s : State) : Prop :=
  ∀ v : Word, s.mw.trunc v = v → s.mw.trunc (f s.mw s.p v).1 = s.mw.trunc (g v).1 ∧ (f s.mw s.p v).2 = (g v).2

/-! One form of each instruction: its arm of `exec` is a shape over an operand, or a mode, that only reads. -/

section Forms

variable {i : Instr} {s : State}

theorem alu_form {core : Width → Word → Word → Bool → Bool → AluOut} {operand : State → Word × State}
    (hcore : ∀ w a b cin dec, core w (w.trunc a) b cin dec = core w a b cin dec) (h : OnlyReads s (operand s).2)
    (hexec : exec i s = .next (accOp (aluOp core) operand s)) :
    let o := core (widthOf s.p.m) s.c (operand s).1 s.p.c s.p.d
    ∃ t, exec i s = .next t ∧
      t = { s with
            c := accResult s.p.m s.c o.value
            p := nzFrom s.p.m o.value { s.p with c := o.carry, v := o.overflow }
            bus := (operand s).2.bus } ∧
      SameMemory s t := by
  refine ⟨_, hexec.trans ?_, rfl, sameMemory_of_mem_eq h.memory⟩
  simp only [accOp_eq _ _ _ h, aluOp, State.acc, hcore, setAcc_c, State.mw, setNZ_widthOf]

theorem cmp_form {operand : State → Word × State} (h : OnlyReads s (operand s).2)
    (hexec : exec i s = .next (accTest cmpOp operand s)) :
    ∃ t, exec i s = .next t ∧
      t = { s with
            p := nzFrom s.p.m (s.c - (operand s).1) { s.p with c := notBelow s.p.m s.c (operand s).1 }
            bus := (operand s).2.bus } ∧
      SameMemory s t := by
  refine ⟨_, hexec.trans ?_, rfl, sameMemory_of_mem_eq h.memory⟩
  simp only [accTest_eq _ _ _ h, State.acc, cmpOp_trunc, State.mw, cmpOp_widthOf]

theorem indexTest_form (reg : State → Word) {operand : State → Word × State} (h : OnlyReads s (operand s).2)
    (hexec : exec i s = .next (indexTest reg operand s)) :
    ∃ t, exec i s = .next t ∧
      t = { s with
            p := nzFrom s.p.x (reg s - (operand s).1) { s.p with c := notBelow s.p.x (reg s) (operand s).1 }
            bus := (operand s).2.bus } ∧
      SameMemory s t := by
  refine ⟨_, hexec.trans ?_, rfl, sameMemory_of_mem_eq h.memory⟩
  simp only [indexTest_eq _ _ _ h, State.xw, cmpOp_widthOf]

theorem modifyMem_form {f : Width → Flags → Word → Word × Flags} {g : Word → Word × Flags} {ea : State → EA × State}
    (hfg : Agrees f g s) (h : OnlyReads s (ea s).2) (hexec : exec i s = .next (modifyMem f ea s)) :
    ModifiesMemory i ea s g := by
  obtain ⟨hvalue, hflags⟩ := hfg (memRead s.mw (ea s).1 (ea s).2).1 (Bus.trunc_readW _ _ _ _)
  refine ⟨_, hexec.trans ?_, rfl, stored_of_writeRmw (h.trans (memRead_onlyReads s.mw (ea s).1 (ea s).2)) rfl⟩
  rw [modifyMem_eq f ea s h, hflags, Bus.writeRmw_congr hvalue]
  rfl

theorem modifyAcc_form {f : Width → Flags → Word → Word × Flags} {g : Word → Word × Flags} (hfg : Agrees f g s)
    (hexec : exec i s = .next (modifyAcc f s)) : ModifiesAcc i s g := by
  have hacc : s.acc = if s.p.m then zext16 (lo s.c) else s.c := trunc_widthOf s.p.m s.c
  obtain ⟨hvalue, hflags⟩ := hfg s.acc (Width.trunc_trunc s.mw s.c)
  simp only [ModifiesAcc, ← hacc, ← setAcc_c]
  rw [hexec, modifyAcc_eq, hflags, State.setAcc_congr hvalue]

end Forms

/-! INC, DEC, TSB and TRB (R275, R278, R304, R305): the model's operation and the statement's. -/

theorem incOp_agrees (s : State) : Agrees incOp (fun v => counted s.p.m s.p (v + 1)) s :=
  fun v _ => ⟨Width.trunc_trunc s.mw (v + 1), setNZ_widthOf s.p.m (v + 1) s.p⟩

theorem decOp_agrees (s : State) : Agrees decOp (fun v => counted s.p.m s.p (v - 1)) s :=
  fun v _ => ⟨Width.trunc_trunc s.mw (v - 1), setNZ_widthOf s.p.m (v - 1) s.p⟩

/-- The z of TSB and TRB: the accumulator against the old operand. -/
theorem testBits_z (s : State) (v : Word) : (s.mw.trunc (s.acc &&& v) == 0) = isZero s.p.m (s.c &&& v) := by
  rw [State.acc, Width.trunc_trunc_and, State.mw, isZero_widthOf]

theorem tsbOp_agrees (s : State) :
    Agrees (tsbOp s.acc) (fun v => (v ||| s.c, { s.p with z := isZero s.p.m (s.c &&& v) })) s :=
  fun v _ => ⟨Width.trunc_or_trunc s.mw s.c v, congrArg (fun z => { s.p with z := z }) (testBits_z s v)⟩

theorem trbOp_agrees (s : State) :
    Agrees (trbOp s.acc) (fun v => (v &&& ~~~s.c, { s.p with z := isZero s.p.m (s.c &&& v) })) s :=
  fun v _ => ⟨Width.trunc_and_not_trunc s.mw s.c v, congrArg (fun z => { s.p with z := z }) (testBits_z s v)⟩

/-- Settles O28: each of the four is `toX` or `toY` of the counted register. -/
theorem indexRegistersCount : Obligations.IndexRegistersCount := by
  intro s
  refine ⟨⟨rfl, rfl, rfl, rfl⟩, ?inx, ?iny, ?dex, ?dey⟩
  case inx => exact congrArg Host.Outcome.next (toX_eq (s.x + 1) s)
  case iny => exact congrArg Host.Outcome.next (toY_eq (s.y + 1) s)
  case dex => exact congrArg Host.Outcome.next (toX_eq (s.x - 1) s)
  case dey => exact congrArg Host.Outcome.next (toY_eq (s.y - 1) s)

/-- Settles O18: every form is `accOp` of the adder, which sees the accumulator at the width of m, over an operand that only
reads. -/
theorem adcAddsToTheAccumulator : Obligations.AdcAddsToTheAccumulator := by
  intro s
  have mem {ea : State → EA × State} (h : OnlyReads s (ea s).2) := memOperand_onlyReads State.mw ea s h
  have form {i : Instr} {operand : State → Word × State} (h : OnlyReads s (operand s).2)
      (hexec : exec i s = .next (accOp adcOp operand s)) := alu_form addCore_trunc h (adcOp_eq_aluOp ▸ hexec)
  exact ⟨fun d => ⟨rfl, form (mem (eaDpIndX_onlyReads d s)) rfl⟩,
    fun n => ⟨rfl, form (mem (eaSr_onlyReads n s)) rfl⟩,
    fun d => ⟨rfl, form (mem (eaDp_onlyReads d s)) rfl⟩,
    fun d => ⟨rfl, form (mem (eaDpIndL_onlyReads 0x67 d s)) rfl⟩,
    fun v => ⟨rfl, form (immOperand_onlyReads State.mw v s) rfl⟩,
    fun a => ⟨rfl, form (mem (eaAbs_onlyReads a s)) rfl⟩,
    fun al => ⟨congrArg (0x6F :: ·) (longBytes_eq al), form (mem (eaAbsL_onlyReads al s)) rfl⟩,
    fun d => ⟨rfl, form (mem (eaDpIndY_onlyReads d s)) rfl⟩,
    fun d => ⟨rfl, form (mem (eaDpInd_onlyReads d s)) rfl⟩,
    fun n => ⟨rfl, form (mem (eaSrIndY_onlyReads n s)) rfl⟩,
    fun d => ⟨rfl, form (mem (eaDpX_onlyReads d s)) rfl⟩,
    fun d => ⟨rfl, form (mem (eaDpIndLY_onlyReads 0x77 d s)) rfl⟩,
    fun a => ⟨rfl, form (mem (eaAbsY_onlyReads a s)) rfl⟩,
    fun a => ⟨rfl, form (mem (eaAbsX_onlyReads a s)) rfl⟩,
    fun al => ⟨congrArg (0x7F :: ·) (longBytes_eq al), form (mem (eaAbsLX_onlyReads al s)) rfl⟩⟩

/-- Settles O19: every form is `accOp` of the subtractor, which sees the accumulator at the width of m, over an operand that
only reads. -/
theorem sbcSubtractsFromTheAccumulator : Obligations.SbcSubtractsFromTheAccumulator := by
  intro s
  have mem {ea : State → EA × State} (h : OnlyReads s (ea s).2) := memOperand_onlyReads State.mw ea s h
  have form {i : Instr} {operand : State → Word × State} (h : OnlyReads s (operand s).2)
      (hexec : exec i s = .next (accOp sbcOp operand s)) := alu_form subCore_trunc h (sbcOp_eq_aluOp ▸ hexec)
  exact ⟨fun d => ⟨rfl, form (mem (eaDpIndX_onlyReads d s)) rfl⟩,
    fun n => ⟨rfl, form (mem (eaSr_onlyReads n s)) rfl⟩,
    fun d => ⟨rfl, form (mem (eaDp_onlyReads d s)) rfl⟩,
    fun d => ⟨rfl, form (mem (eaDpIndL_onlyReads 0xE7 d s)) rfl⟩,
    fun v => ⟨rfl, form (immOperand_onlyReads State.mw v s) rfl⟩,
    fun a => ⟨rfl, form (mem (eaAbs_onlyReads a s)) rfl⟩,
    fun al => ⟨congrArg (0xEF :: ·) (longBytes_eq al), form (mem (eaAbsL_onlyReads al s)) rfl⟩,
    fun d => ⟨rfl, form (mem (eaDpIndY_onlyReads d s)) rfl⟩,
    fun d => ⟨rfl, form (mem (eaDpInd_onlyReads d s)) rfl⟩,
    fun n => ⟨rfl, form (mem (eaSrIndY_onlyReads n s)) rfl⟩,
    fun d => ⟨rfl, form (mem (eaDpX_onlyReads d s)) rfl⟩,
    fun d => ⟨rfl, form (mem (eaDpIndLY_onlyReads 0xF7 d s)) rfl⟩,
    fun a => ⟨rfl, form (mem (eaAbsY_onlyReads a s)) rfl⟩,
    fun a => ⟨rfl, form (mem (eaAbsX_onlyReads a s)) rfl⟩,
    fun al => ⟨congrArg (0xFF :: ·) (longBytes_eq al), form (mem (eaAbsLX_onlyReads al s)) rfl⟩⟩

/-- Settles O24: every form is `accTest cmpOp` or `indexTest` over an operand that only reads. -/
theorem comparesSetNZC : Obligations.ComparesSetNZC := by
  intro s
  refine ⟨?cmp, ?cpx, ?cpy⟩
  case cmp =>
    have mem {ea : State → EA × State} (h : OnlyReads s (ea s).2) := memOperand_onlyReads State.mw ea s h
    exact ⟨fun d => ⟨rfl, cmp_form (mem (eaDpIndX_onlyReads d s)) rfl⟩,
      fun n => ⟨rfl, cmp_form (mem (eaSr_onlyReads n s)) rfl⟩,
      fun d => ⟨rfl, cmp_form (mem (eaDp_onlyReads d s)) rfl⟩,
      fun d => ⟨rfl, cmp_form (mem (eaDpIndL_onlyReads 0xC7 d s)) rfl⟩,
      fun v => ⟨rfl, cmp_form (immOperand_onlyReads State.mw v s) rfl⟩,
      fun a => ⟨rfl, cmp_form (mem (eaAbs_onlyReads a s)) rfl⟩,
      fun al => ⟨congrArg (0xCF :: ·) (longBytes_eq al), cmp_form (mem (eaAbsL_onlyReads al s)) rfl⟩,
      fun d => ⟨rfl, cmp_form (mem (eaDpIndY_onlyReads d s)) rfl⟩,
      fun d => ⟨rfl, cmp_form (mem (eaDpInd_onlyReads d s)) rfl⟩,
      fun n => ⟨rfl, cmp_form (mem (eaSrIndY_onlyReads n s)) rfl⟩,
      fun d => ⟨rfl, cmp_form (mem (eaDpX_onlyReads d s)) rfl⟩,
      fun d => ⟨rfl, cmp_form (mem (eaDpIndLY_onlyReads 0xD7 d s)) rfl⟩,
      fun a => ⟨rfl, cmp_form (mem (eaAbsY_onlyReads a s)) rfl⟩,
      fun a => ⟨rfl, cmp_form (mem (eaAbsX_onlyReads a s)) rfl⟩,
      fun al => ⟨congrArg (0xDF :: ·) (longBytes_eq al), cmp_form (mem (eaAbsLX_onlyReads al s)) rfl⟩⟩
  case cpx =>
    have mem {ea : State → EA × State} (h : OnlyReads s (ea s).2) := memOperand_onlyReads State.xw ea s h
    exact ⟨fun v => ⟨rfl, indexTest_form State.x (immOperand_onlyReads State.xw v s) rfl⟩,
      fun d => ⟨rfl, indexTest_form State.x (mem (eaDp_onlyReads d s)) rfl⟩,
      fun a => ⟨rfl, indexTest_form State.x (mem (eaAbs_onlyReads a s)) rfl⟩⟩
  case cpy =>
    have mem {ea : State → EA × State} (h : OnlyReads s (ea s).2) := memOperand_onlyReads State.xw ea s h
    exact ⟨fun v => ⟨rfl, indexTest_form State.y (immOperand_onlyReads State.xw v s) rfl⟩,
      fun d => ⟨rfl, indexTest_form State.y (mem (eaDp_onlyReads d s)) rfl⟩,
      fun a => ⟨rfl, indexTest_form State.y (mem (eaAbs_onlyReads a s)) rfl⟩⟩

/-- Settles O26: every memory form is `modifyMem`, and INC A and DEC A are `modifyAcc`, of an operation that agrees with the
statement's. -/
theorem incDecTsbTrbModifyTheirOperand : Obligations.IncDecTsbTrbModifyTheirOperand := by
  intro s
  refine ⟨?inc, ?dec, ?tsb, ?trb, ⟨rfl, ?incAcc⟩, ⟨rfl, ?decAcc⟩⟩
  case inc =>
    exact ⟨fun d => ⟨rfl, modifyMem_form (incOp_agrees s) (eaDp_onlyReads d s) rfl⟩,
      fun a => ⟨rfl, modifyMem_form (incOp_agrees s) (eaAbs_onlyReads a s) rfl⟩,
      fun d => ⟨rfl, modifyMem_form (incOp_agrees s) (eaDpX_onlyReads d s) rfl⟩,
      fun a => ⟨rfl, modifyMem_form (incOp_agrees s) (eaAbsX_onlyReads a s) rfl⟩⟩
  case dec =>
    exact ⟨fun d => ⟨rfl, modifyMem_form (decOp_agrees s) (eaDp_onlyReads d s) rfl⟩,
      fun a => ⟨rfl, modifyMem_form (decOp_agrees s) (eaAbs_onlyReads a s) rfl⟩,
      fun d => ⟨rfl, modifyMem_form (decOp_agrees s) (eaDpX_onlyReads d s) rfl⟩,
      fun a => ⟨rfl, modifyMem_form (decOp_agrees s) (eaAbsX_onlyReads a s) rfl⟩⟩
  case tsb =>
    exact ⟨fun d => ⟨rfl, modifyMem_form (tsbOp_agrees s) (eaDp_onlyReads d s) rfl⟩,
      fun a => ⟨rfl, modifyMem_form (tsbOp_agrees s) (eaAbs_onlyReads a s) rfl⟩⟩
  case trb =>
    exact ⟨fun d => ⟨rfl, modifyMem_form (trbOp_agrees s) (eaDp_onlyReads d s) rfl⟩,
      fun a => ⟨rfl, modifyMem_form (trbOp_agrees s) (eaAbs_onlyReads a s) rfl⟩⟩
  case incAcc => exact modifyAcc_form (incOp_agrees s) rfl
  case decAcc => exact modifyAcc_form (decOp_agrees s) rfl

end Sys2Proof.Claim
end

section
/-! SUPPORT and PROOFS. Logic and shifts (45_logic_shift.md): bitwise results and top bits at the width of m, then O23, O25
and O27. -/

namespace Sys2Proof.Machine

/-! Truncation to the width (R11). -/

theorem lo_xor (a b : Word) : lo (a ^^^ b) = lo a ^^^ lo b := BitVec.extractLsb'_xor

theorem Width.trunc_trunc_or (w : Width) (a b : Word) : w.trunc (w.trunc a ||| b) = w.trunc (a ||| b) := by
  rw [BitVec.or_comm, Width.trunc_or_trunc, BitVec.or_comm]

theorem Width.trunc_trunc_xor (w : Width) (a b : Word) : w.trunc (w.trunc a ^^^ b) = w.trunc (a ^^^ b) := by
  cases w with
  | w16 => rfl
  | w8 => rw [Width.trunc_w8_eq_iff, lo_xor, lo_xor, lo_trunc]

theorem Width.trunc_and_trunc (w : Width) (a b : Word) : w.trunc (b &&& w.trunc a) = w.trunc (b &&& a) := by
  rw [BitVec.and_comm, Width.trunc_trunc_and, BitVec.and_comm]

end Sys2Proof.Machine

namespace Sys2Proof.Claim
open Sys2Proof.Machine

/-! Bits at a width, in the words of the statements (R45, R303, R309). -/

theorem msb_widthOf (narrow : Bool) (v : Word) : (widthOf narrow).msb v = topBit narrow v := by
  cases narrow <;> rfl

theorem msb2_widthOf (narrow : Bool) (v : Word) :
    (widthOf narrow).msb2 v = if narrow then v.getLsbD 6 else v.getLsbD 14 := by
  cases narrow <;> rfl

theorem topBit_widthOf (narrow c : Bool) :
    (widthOf narrow).topBit c = if c then (if narrow then 0x0080 else 0x8000) else 0x0000 := by
  cases narrow <;> rfl

/-- AND, ORA and EOR over their bitwise operation: its result with its n and z (R300 to R302). -/
def bitwiseOp (g : Word → Word → Word) (w : Width) (p : Flags) (a m : Word) : Word × Flags := (g a m, setNZ w (g a m) p)

theorem andOp_eq_bitwiseOp : andOp = bitwiseOp (· &&& ·) := rfl

theorem oraOp_eq_bitwiseOp : oraOp = bitwiseOp (· ||| ·) := rfl

theorem eorOp_eq_bitwiseOp : eorOp = bitwiseOp (· ^^^ ·) := rfl

/-! One form of each instruction: its arm of `exec` is a shape over an operand that only reads. -/

section Forms

variable {i : Instr} {s : State}

/-- At 8 bits the model combines A where the statement combines C: the low byte of the result is the same. -/
theorem bitwise_form {g : Word → Word → Word} {operand : State → Word × State}
    (hg : ∀ w a b, Width.trunc w (g (w.trunc a) b) = w.trunc (g a b)) (h : OnlyReads s (operand s).2)
    (hexec : exec i s = .next (accOp (bitwiseOp g) operand s)) :
    ∃ t, exec i s = .next t ∧
      t = { s with
            c := accResult s.p.m s.c (g s.c (operand s).1), p := nzFrom s.p.m (g s.c (operand s).1) s.p
            bus := (operand s).2.bus } ∧
      SameMemory s t := by
  refine ⟨_, hexec.trans ?_, rfl, sameMemory_of_mem_eq h.memory⟩
  have hlow : s.mw.trunc (g s.acc (operand s).1) = s.mw.trunc (g s.c (operand s).1) := hg s.mw s.c (operand s).1
  have hnz : setNZ s.mw (g s.acc (operand s).1) s.p = nzFrom s.p.m (g s.c (operand s).1) s.p :=
    (setNZ_congr hlow s.p).trans (setNZ_widthOf s.p.m (g s.c (operand s).1) s.p)
  simp only [accOp_eq _ _ _ h, bitwiseOp, State.setAcc_congr hlow, setAcc_c, hnz]

theorem bit_form {operand : State → Word × State} (h : OnlyReads s (operand s).2)
    (hexec : exec i s = .next (accTest bitMemOp operand s)) :
    ∃ t, exec i s = .next t ∧
      t = { s with
            p := { s.p with
                   z := isZero s.p.m (s.c &&& (operand s).1), n := topBit s.p.m (operand s).1
                   v := if s.p.m then (operand s).1.getLsbD 6 else (operand s).1.getLsbD 14 }
            bus := (operand s).2.bus } ∧
      SameMemory s t := by
  refine ⟨_, hexec.trans ?_, rfl, sameMemory_of_mem_eq h.memory⟩
  simp only [accTest_eq _ _ _ h, bitMemOp, testBits_z]
  simp only [State.mw, msb_widthOf, msb2_widthOf]

end Forms

/-! ASL, LSR, ROL and ROR (R306 to R309): the model's operation and the statement's. The right shifts need the operand to
have no bit above the width. -/

theorem aslOp_agrees (s : State) : Agrees aslOp (shiftLeft s.p.m s.p) s := by
  refine fun v _ => ⟨Width.trunc_trunc s.mw (v <<< 1), ?_⟩
  simp only [aslOp, shiftLeft, State.mw, msb_widthOf, setNZ_widthOf]

theorem lsrOp_agrees (s : State) : Agrees lsrOp (shiftRight s.p.m s.p) s := by
  intro v hv
  rw [lsrOp, hv]
  exact ⟨rfl, setNZ_widthOf s.p.m (v >>> 1) { s.p with c := v.getLsbD 0 }⟩

theorem rolOp_agrees (s : State) : Agrees rolOp (rotateLeft s.p.m s.p) s := by
  refine fun v _ => ⟨Width.trunc_trunc s.mw (v <<< 1 ||| carryWord s.p.c), ?_⟩
  simp only [rolOp, rotateLeft, carryWord, State.mw, msb_widthOf, setNZ_widthOf]

theorem rorOp_agrees (s : State) : Agrees rorOp (rotateRight s.p.m s.p) s := by
  intro v hv
  rw [rorOp, hv, rotateRight, ← topBit_widthOf]
  exact ⟨rfl, setNZ_widthOf s.p.m (v >>> 1 ||| s.mw.topBit s.p.c) { s.p with c := v.getLsbD 0 }⟩

/-- Settles O23: every form is `accOp` of a bitwise operation, which truncation to the width of m does not disturb, over an
operand that only reads. -/
theorem andOraEorCombineBits : Obligations.AndOraEorCombineBits := by
  intro s
  have mem {ea : State → EA × State} (h : OnlyReads s (ea s).2) := memOperand_onlyReads State.mw ea s h
  refine ⟨?and, ?ora, ?eor⟩
  case and =>
    have form {i : Instr} {operand : State → Word × State} (h : OnlyReads s (operand s).2)
        (hexec : exec i s = .next (accOp andOp operand s)) := bitwise_form Width.trunc_trunc_and h (andOp_eq_bitwiseOp ▸ hexec)
    exact ⟨fun d => ⟨rfl, form (mem (eaDpIndX_onlyReads d s)) rfl⟩,
      fun n => ⟨rfl, form (mem (eaSr_onlyReads n s)) rfl⟩,
      fun d => ⟨rfl, form (mem (eaDp_onlyReads d s)) rfl⟩,
      fun d => ⟨rfl, form (mem (eaDpIndL_onlyReads 0x27 d s)) rfl⟩,
      fun v => ⟨rfl, form (immOperand_onlyReads State.mw v s) rfl⟩,
      fun a => ⟨rfl, form (mem (eaAbs_onlyReads a s)) rfl⟩,
      fun al => ⟨congrArg (0x2F :: ·) (longBytes_eq al), form (mem (eaAbsL_onlyReads al s)) rfl⟩,
      fun d => ⟨rfl, form (mem (eaDpIndY_onlyReads d s)) rfl⟩,
      fun d => ⟨rfl, form (mem (eaDpInd_onlyReads d s)) rfl⟩,
      fun n => ⟨rfl, form (mem (eaSrIndY_onlyReads n s)) rfl⟩,
      fun d => ⟨rfl, form (mem (eaDpX_onlyReads d s)) rfl⟩,
      fun d => ⟨rfl, form (mem (eaDpIndLY_onlyReads 0x37 d s)) rfl⟩,
      fun a => ⟨rfl, form (mem (eaAbsY_onlyReads a s)) rfl⟩,
      fun a => ⟨rfl, form (mem (eaAbsX_onlyReads a s)) rfl⟩,
      fun al => ⟨congrArg (0x3F :: ·) (longBytes_eq al), form (mem (eaAbsLX_onlyReads al s)) rfl⟩⟩
  case ora =>
    have form {i : Instr} {operand : State → Word × State} (h : OnlyReads s (operand s).2)
        (hexec : exec i s = .next (accOp oraOp operand s)) := bitwise_form Width.trunc_trunc_or h (oraOp_eq_bitwiseOp ▸ hexec)
    exact ⟨fun d => ⟨rfl, form (mem (eaDpIndX_onlyReads d s)) rfl⟩,
      fun n => ⟨rfl, form (mem (eaSr_onlyReads n s)) rfl⟩,
      fun d => ⟨rfl, form (mem (eaDp_onlyReads d s)) rfl⟩,
      fun d => ⟨rfl, form (mem (eaDpIndL_onlyReads 0x07 d s)) rfl⟩,
      fun v => ⟨rfl, form (immOperand_onlyReads State.mw v s) rfl⟩,
      fun a => ⟨rfl, form (mem (eaAbs_onlyReads a s)) rfl⟩,
      fun al => ⟨congrArg (0x0F :: ·) (longBytes_eq al), form (mem (eaAbsL_onlyReads al s)) rfl⟩,
      fun d => ⟨rfl, form (mem (eaDpIndY_onlyReads d s)) rfl⟩,
      fun d => ⟨rfl, form (mem (eaDpInd_onlyReads d s)) rfl⟩,
      fun n => ⟨rfl, form (mem (eaSrIndY_onlyReads n s)) rfl⟩,
      fun d => ⟨rfl, form (mem (eaDpX_onlyReads d s)) rfl⟩,
      fun d => ⟨rfl, form (mem (eaDpIndLY_onlyReads 0x17 d s)) rfl⟩,
      fun a => ⟨rfl, form (mem (eaAbsY_onlyReads a s)) rfl⟩,
      fun a => ⟨rfl, form (mem (eaAbsX_onlyReads a s)) rfl⟩,
      fun al => ⟨congrArg (0x1F :: ·) (longBytes_eq al), form (mem (eaAbsLX_onlyReads al s)) rfl⟩⟩
  case eor =>
    have form {i : Instr} {operand : State → Word × State} (h : OnlyReads s (operand s).2)
        (hexec : exec i s = .next (accOp eorOp operand s)) := bitwise_form Width.trunc_trunc_xor h (eorOp_eq_bitwiseOp ▸ hexec)
    exact ⟨fun d => ⟨rfl, form (mem (eaDpIndX_onlyReads d s)) rfl⟩,
      fun n => ⟨rfl, form (mem (eaSr_onlyReads n s)) rfl⟩,
      fun d => ⟨rfl, form (mem (eaDp_onlyReads d s)) rfl⟩,
      fun d => ⟨rfl, form (mem (eaDpIndL_onlyReads 0x47 d s)) rfl⟩,
      fun v => ⟨rfl, form (immOperand_onlyReads State.mw v s) rfl⟩,
      fun a => ⟨rfl, form (mem (eaAbs_onlyReads a s)) rfl⟩,
      fun al => ⟨congrArg (0x4F :: ·) (longBytes_eq al), form (mem (eaAbsL_onlyReads al s)) rfl⟩,
      fun d => ⟨rfl, form (mem (eaDpIndY_onlyReads d s)) rfl⟩,
      fun d => ⟨rfl, form (mem (eaDpInd_onlyReads d s)) rfl⟩,
      fun n => ⟨rfl, form (mem (eaSrIndY_onlyReads n s)) rfl⟩,
      fun d => ⟨rfl, form (mem (eaDpX_onlyReads d s)) rfl⟩,
      fun d => ⟨rfl, form (mem (eaDpIndLY_onlyReads 0x57 d s)) rfl⟩,
      fun a => ⟨rfl, form (mem (eaAbsY_onlyReads a s)) rfl⟩,
      fun a => ⟨rfl, form (mem (eaAbsX_onlyReads a s)) rfl⟩,
      fun al => ⟨congrArg (0x5F :: ·) (longBytes_eq al), form (mem (eaAbsLX_onlyReads al s)) rfl⟩⟩

/-- Settles O25: every memory form is `accTest bitMemOp` over an operand that only reads; BIT # reads nothing and sets z
alone. -/
theorem bitTestsBits : Obligations.BitTestsBits := by
  intro s
  refine ⟨?memory, fun v => rfl, ?immediate⟩
  case memory =>
    have mem {ea : State → EA × State} (h : OnlyReads s (ea s).2) := memOperand_onlyReads State.mw ea s h
    exact ⟨fun d => ⟨rfl, bit_form (mem (eaDp_onlyReads d s)) rfl⟩,
      fun a => ⟨rfl, bit_form (mem (eaAbs_onlyReads a s)) rfl⟩,
      fun d => ⟨rfl, bit_form (mem (eaDpX_onlyReads d s)) rfl⟩,
      fun a => ⟨rfl, bit_form (mem (eaAbsX_onlyReads a s)) rfl⟩⟩
  case immediate =>
    intro v
    have hz : (s.mw.trunc (s.acc &&& s.mw.trunc v.value) == 0) = isZero s.p.m (s.c &&& v.value) := by
      rw [Width.trunc_and_trunc, testBits_z]
    exact congrArg (fun z => Host.Outcome.next { s with p := { s.p with z := z } }) hz

/-- Settles O27: every memory form is `modifyMem`, and every accumulator form is `modifyAcc`, of an operation that agrees with
the statement's. -/
theorem shiftsModifyTheirOperand : Obligations.ShiftsModifyTheirOperand := by
  intro s
  refine ⟨?asl, ?lsr, ?rol, ?ror, ⟨rfl, ?aslAcc⟩, ⟨rfl, ?lsrAcc⟩, ⟨rfl, ?rolAcc⟩, ⟨rfl, ?rorAcc⟩⟩
  case asl =>
    exact ⟨fun d => ⟨rfl, modifyMem_form (aslOp_agrees s) (eaDp_onlyReads d s) rfl⟩,
      fun a => ⟨rfl, modifyMem_form (aslOp_agrees s) (eaAbs_onlyReads a s) rfl⟩,
      fun d => ⟨rfl, modifyMem_form (aslOp_agrees s) (eaDpX_onlyReads d s) rfl⟩,
      fun a => ⟨rfl, modifyMem_form (aslOp_agrees s) (eaAbsX_onlyReads a s) rfl⟩⟩
  case lsr =>
    exact ⟨fun d => ⟨rfl, modifyMem_form (lsrOp_agrees s) (eaDp_onlyReads d s) rfl⟩,
      fun a => ⟨rfl, modifyMem_form (lsrOp_agrees s) (eaAbs_onlyReads a s) rfl⟩,
      fun d => ⟨rfl, modifyMem_form (lsrOp_agrees s) (eaDpX_onlyReads d s) rfl⟩,
      fun a => ⟨rfl, modifyMem_form (lsrOp_agrees s) (eaAbsX_onlyReads a s) rfl⟩⟩
  case rol =>
    exact ⟨fun d => ⟨rfl, modifyMem_form (rolOp_agrees s) (eaDp_onlyReads d s) rfl⟩,
      fun a => ⟨rfl, modifyMem_form (rolOp_agrees s) (eaAbs_onlyReads a s) rfl⟩,
      fun d => ⟨rfl, modifyMem_form (rolOp_agrees s) (eaDpX_onlyReads d s) rfl⟩,
      fun a => ⟨rfl, modifyMem_form (rolOp_agrees s) (eaAbsX_onlyReads a s) rfl⟩⟩
  case ror =>
    exact ⟨fun d => ⟨rfl, modifyMem_form (rorOp_agrees s) (eaDp_onlyReads d s) rfl⟩,
      fun a => ⟨rfl, modifyMem_form (rorOp_agrees s) (eaAbs_onlyReads a s) rfl⟩,
      fun d => ⟨rfl, modifyMem_form (rorOp_agrees s) (eaDpX_onlyReads d s) rfl⟩,
      fun a => ⟨rfl, modifyMem_form (rorOp_agrees s) (eaAbsX_onlyReads a s) rfl⟩⟩
  case aslAcc => exact modifyAcc_form (aslOp_agrees s) rfl
  case lsrAcc => exact modifyAcc_form (lsrOp_agrees s) rfl
  case rolAcc => exact modifyAcc_form (rolOp_agrees s) rfl
  case rorAcc => exact modifyAcc_form (rorOp_agrees s) rfl

end Sys2Proof.Claim
end

section
/-! SUPPORT and PROOFS. Control transfer (46_control.md): pointers read within their bank, the bytes of a 24-bit push, then O35
to O38. -/

namespace Sys2Proof.Machine

/-! Pointers in RAM or ROM (R84, R178 to R180). -/

theorem AddrStep.next_bank_mkAddr (k : Byte) (o : Word) : AddrStep.bank.next (mkAddr k o) = mkAddr k (o + 1) := by
  simp [AddrStep.next]

/-- A 24-bit read of RAM or ROM is little-endian, the bank last. -/
theorem Bus.read24_backed (b : Bus) (st : AddrStep) (a : Addr) (h : b.kindAt a ≠ .device)
    (h' : b.kindAt (st.next a) ≠ .device) (h'' : b.kindAt (st.next (st.next a)) ≠ .device) :
    (b.read24 st a).1 = mkAddr (b.mem.read (st.next (st.next a)).toNat)
      (pair (b.mem.read (st.next a).toNat) (b.mem.read a.toNat)) := by
  have hbank : (b.read16 st a).2.kindAt (st.next (st.next a)) ≠ .device := by simpa [Bus.kindAt] using h''
  simp only [Bus.read24, Bus.read16_backed b st a h h', Bus.read8_backed _ _ hbank, Bus.read16_mem]

theorem read16_bank_backed {s : State} {k : Byte} {o : Word} (h : s.backed (mkAddr k o) = true)
    (h' : s.backed (mkAddr k (o + 1)) = true) :
    (read16 .bank (mkAddr k o) s).1 = pair (s.peek (mkAddr k (o + 1))) (s.peek (mkAddr k o)) := by
  rw [State.backed_iff] at h h'
  rw [← AddrStep.next_bank_mkAddr] at h' ⊢
  exact Bus.read16_backed s.bus .bank (mkAddr k o) h h'

theorem read24_bank_backed {s : State} {k : Byte} {o : Word} (h : s.backed (mkAddr k o) = true)
    (h' : s.backed (mkAddr k (o + 1)) = true) (h'' : s.backed (mkAddr k (o + 2)) = true) :
    (read24 .bank (mkAddr k o) s).1 = mkAddr (s.peek (mkAddr k (o + 2)))
      (pair (s.peek (mkAddr k (o + 1))) (s.peek (mkAddr k o))) := by
  have two : o + 2 = o + 1 + 1 := by rw [BitVec.add_assoc]; rfl
  rw [State.backed_iff] at h h' h''
  rw [two, ← AddrStep.next_bank_mkAddr, ← AddrStep.next_bank_mkAddr] at h'' ⊢
  rw [← AddrStep.next_bank_mkAddr] at h'
  exact Bus.read24_backed s.bus .bank (mkAddr k o) h h' h''

/-- Two pushes move S to a third place. -/
theorem stackDown_stackDown_ne (e lin : Bool) (v : Word) : stackDown e lin (stackDown e lin v) ≠ v := by
  have := v.isLt
  rw [Ne, ← BitVec.toNat_inj, stackDown_toNat, stackDown_toNat]
  split <;> omega

end Sys2Proof.Machine

namespace Sys2Proof.Claim
open Sys2Proof.Machine

/-! A branch, and the pushes of a call, in the words of the statements. -/

theorem branch_eq (k : Cond) (r : Byte) (s : State) :
    branch k r s = if k.holds s.p then { s with pc := s.pc + r.signExtend 16 } else s := by
  unfold branch
  split <;> rfl

/-- What is written stays written where memory stays. -/
theorem WritesBytes.of_sameMemory {cells : List (Addr × Byte)} {s t u : State} (h : WritesBytes cells s t)
    (hu : SameMemory t u) : WritesBytes cells s u := by
  intro hk
  obtain ⟨hother, hsame⟩ := h hk
  exact ⟨fun a ha => (hu a).trans (hother a ha), fun hwf c hc hram => (hu c.1).trans (hsame hwf c hc hram)⟩

theorem backed_afterPushWord (lin : Bool) (v : Word) (s : State) (a : Addr) :
    (afterPushWord lin v s).backed a = s.backed a := by
  simp [State.backed, afterPushWord]

theorem longCells_nodup (lin : Bool) (k : Byte) (v : Word) (s : State) : ((longCells lin k v s).map Prod.fst).Nodup := by
  have once (w : Word) : w ≠ below s.e lin w := by
    rw [← stackDown_eq_below]; exact (stackDown_ne s.e lin w).symm
  have twice : s.sp ≠ below s.e lin (below s.e lin s.sp) := by
    simp only [← stackDown_eq_below]; exact (stackDown_stackDown_ne s.e lin s.sp).symm
  simp [longCells, bank0_inj, once, twice]

/-- JSL's pushes: the bank, then the word below it (R347). -/
theorem push16_push8_eq (lin : Bool) (k : Byte) (v : Word) (s : State) :
    push16 lin v (push8 lin k s) =
      afterPushWord lin v { s with sp := below s.e lin s.sp, bus := s.bus.write8 (bank0 s.sp) k } := by
  rw [push16_eq_afterPushWord, push8_eq, stackDown_eq_below]

/-- Settles O36: what is left after the target's reads is the update of PC, or of PB and PC. -/
theorem jumpsReachTheirTargets : Obligations.JumpsReachTheirTargets := by
  intro s a al
  refine ⟨⟨rfl, rfl, rfl, congrArg (0x5C :: ·) (longBytes_eq al), rfl⟩, rfl, rfl, ?jmpInd, ?jmpIndX, ?jmlIndL⟩
  case jmpInd =>
    have h := read16_onlyReads .bank (bank0 a) s
    exact ⟨_, rfl, rfl, sameMemory_of_mem_eq h.memory, read16_bank_backed⟩
  case jmpIndX =>
    have h := read16_onlyReads .bank (mkAddr s.pb (a + s.x)) s
    exact ⟨_, rfl, rfl, sameMemory_of_mem_eq h.memory, read16_bank_backed⟩
  case jmlIndL =>
    have h := read24_onlyReads .bank (bank0 a) s
    refine ⟨_, rfl, rfl, sameMemory_of_mem_eq h.memory, fun h0 h1 h2 => ?_⟩
    have target := read24_bank_backed h0 h1 h2
    exact ⟨(congrArg offOf target).trans (offOf_mkAddr _ _), (congrArg bankOf target).trans (bankOf_mkAddr _ _)⟩

/-- Settles O37: JSR and JSR (a,X) push with `push16`, JSL with `push8` and `push16`; JSR (a,X) reads its pointer after the
push, which leaves the pushed bytes as they are. -/
theorem callsPushTheReturnAddress : Obligations.CallsPushTheReturnAddress := by
  intro s a al
  have word (lin : Bool) := push16_eq_afterPushWord lin (s.pc - 1) s
  have pushed (lin : Bool) := pushedWord_afterPushWord (OnlyReads.refl s) lin (s.pc - 1)
  have jsr : exec (.jsrAbs a) s = .next ((afterPushWord (linear s 0x20) (s.pc - 1) s).withPC a) :=
    congrArg (fun q : State => Host.Outcome.next (q.withPC a)) (word (linear s 0x20))
  have jsl : exec (.jsl al) s = .next (jumpLong (al, _)) :=
    congrArg (fun q => Host.Outcome.next (jumpLong (al, q))) (push16_push8_eq (linear s 0x22) s.pb (s.pc - 1) s)
  have cells := longCells_nodup (linear s 0x22) s.pb (s.pc - 1) s
  refine ⟨⟨rfl, congrArg (0x22 :: ·) (longBytes_eq al), rfl⟩, jsr, ⟨_, jsr, pushed (linear s 0x20)⟩, jsl,
    ⟨_, jsl, writesBytes_of_writeCells (OnlyReads.refl s) cells rfl⟩, ?jsrIndX⟩
  case jsrIndX =>
    have h := read16_onlyReads .bank (mkAddr s.pb (a + s.x)) (afterPushWord (linear s 0xFC) (s.pc - 1) s)
    have same := sameMemory_of_mem_eq h.memory
    refine ⟨_, congrArg (fun q => Host.Outcome.next (jumpTo (absIndXTarget a q))) (word (linear s 0xFC)), rfl, same,
      (pushed (linear s 0xFC)).of_sameMemory same, fun h0 h1 => ?_⟩
    rw [← backed_afterPushWord (linear s 0xFC) (s.pc - 1)] at h0 h1
    exact read16_bank_backed h0 h1

/-! A pulled return address, as one update of the state before the pulls (R349, R350). -/

section Pulled

variable {s t : State} (h : OnlyPulls s t)
include h

theorem withPC_pulled (v : Word) : t.withPC v = { s with pc := v, sp := t.sp, bus := t.bus } := by
  rw [h.state]
  rfl

theorem withPB_pulled (v : Word) (k : Byte) :
    (t.withPC v).withPB k = { s with pc := v, pb := k, sp := t.sp, bus := t.bus } := by
  rw [h.state]
  rfl

end Pulled

/-- Settles O38: each return is its pulls, which leave memory as it is, and then the update of PC, or of PC and PB. -/
theorem returnsPullTheReturnAddress : Obligations.ReturnsPullTheReturnAddress := by
  intro s
  refine ⟨⟨rfl, rfl⟩, ?rts, ?rtl⟩
  case rts =>
    have h := pull16_onlyPulls (linear s 0x60) s
    exact ⟨_, congrArg Host.Outcome.next (withPC_pulled h _), sameMemory_of_mem_eq h.memory, rfl⟩
  case rtl =>
    have h := (pull16_onlyPulls (linear s 0x6B) s).trans (pull8_onlyPulls (linear s 0x6B) _)
    exact ⟨_, congrArg Host.Outcome.next (withPB_pulled h _ _), sameMemory_of_mem_eq h.memory, rfl⟩

/-- Settles O35: nine branches are `branch` under their condition; BRL is unconditional. -/
theorem branchesMoveThePcAlone : Obligations.BranchesMoveThePcAlone := by
  intro s r rl taken
  have conditional (k : Cond) : (.next (branch k r s) : Result) = .next (taken (k.holds s.p)) :=
    congrArg Host.Outcome.next (branch_eq k r s)
  exact ⟨⟨rfl, rfl, rfl, rfl, rfl, rfl, rfl, rfl, rfl, rfl⟩,
    conditional .carryClear, conditional .carrySet, conditional .equal, conditional .notEqual, conditional .minus,
    conditional .plus, conditional .overflowClear, conditional .overflowSet, conditional .always, rfl⟩

end Sys2Proof.Claim
end

section
/-! SUPPORT and PROOFS. Flag and mode instructions (47_flags_mode.md): the flags of REP and SEP, flag by flag, then O40. -/

namespace Sys2Proof.Claim
open Sys2Proof.Machine

/-! One flag of REP and of SEP (R377, R378): the operand's bit decides; for m and x it counts in native mode only. -/

theorem and_not_eq_ite (f b : Bool) : (f && !b) = if b then false else f := by
  rw [Bool.if_false_left, Bool.and_comm, Bool.decide_eq_true]

theorem or_eq_ite (f b : Bool) : (f || b) = if b then true else f := by
  rw [Bool.if_true_left, Bool.or_comm, Bool.decide_eq_true]

theorem and_or_not_eq_ite (f e b : Bool) : (f && (e || !b)) = if e = false ∧ b = true then false else f := by
  cases e with
  | false => simpa using and_not_eq_ite f b
  | true => simp

theorem repFlags_eq (e : Bool) (b : Byte) (p : Flags) :
    repFlags e b p =
      { n := if b.getLsbD 7 then false else p.n, v := if b.getLsbD 6 then false else p.v
        m := if e = false ∧ b.getLsbD 5 = true then false else p.m
        x := if e = false ∧ b.getLsbD 4 = true then false else p.x
        d := if b.getLsbD 3 then false else p.d, i := if b.getLsbD 2 then false else p.i
        z := if b.getLsbD 1 then false else p.z, c := if b.getLsbD 0 then false else p.c } := by
  simp only [repFlags, and_not_eq_ite, and_or_not_eq_ite]

theorem sepFlags_eq (e : Bool) (b : Byte) (p : Flags) :
    sepFlags e b p =
      { n := if b.getLsbD 7 then true else p.n, v := if b.getLsbD 6 then true else p.v
        m := if e = false ∧ b.getLsbD 5 = true then true else p.m
        x := if e = false ∧ b.getLsbD 4 = true then true else p.x
        d := if b.getLsbD 3 then true else p.d, i := if b.getLsbD 2 then true else p.i
        z := if b.getLsbD 1 then true else p.z, c := if b.getLsbD 0 then true else p.c } := by
  simp only [sepFlags, or_eq_ite, Bool.and_eq_true, Bool.not_eq_true']

/-- Settles O40: a single-flag instruction, and REP, is its update of P; SEP is `setFlags`, which narrows X and Y by the
new x. -/
theorem flagInstructionsWriteTheirFlags : Obligations.FlagInstructionsWriteTheirFlags := by
  intro s b
  refine ⟨⟨rfl, rfl, rfl, rfl, rfl, rfl, rfl, rfl, rfl⟩, rfl, rfl, rfl, rfl, rfl, rfl, rfl, ?rep, ?sep⟩
  case rep =>
    have rep : exec (.rep b) s = .next (s.withP _) :=
      congrArg (fun p => Host.Outcome.next (s.withP p)) (repFlags_eq s.e b s.p)
    exact ⟨_, rep, rfl, rfl, rfl, rfl, rfl, rfl, rfl, rfl, rfl⟩
  case sep =>
    have sep : exec (.sep b) s = .next (s.setFlags _) :=
      congrArg (fun p => Host.Outcome.next (s.setFlags p)) (sepFlags_eq s.e b s.p)
    exact ⟨_, sep, rfl, rfl, rfl, rfl, rfl, rfl, rfl, rfl, rfl, rfl, rfl⟩

end Sys2Proof.Claim
end

section
/-! SUPPORT and PROOFS. System instructions (48_system.md): RTI's pulls before its update of P, one block move as one update
of the state, then O45, O47 and O48. -/

namespace Sys2Proof.Machine

/-! RTI (R395). A pull reads neither P, X, Y nor PC, and SetP moves neither S nor the bus: P and PC may be set after the
pulls. -/

theorem pull8_setP (lin : Bool) (b : Byte) (s : State) :
    pull8 lin (s.setP b) = ((pull8 lin s).1, (pull8 lin s).2.setP b) := rfl

theorem pull16_setP (lin : Bool) (b : Byte) (s : State) :
    pull16 lin (s.setP b) = ((pull16 lin s).1, (pull16 lin s).2.setP b) := by
  simp only [pull16, pull8_setP]

theorem pull8_withPC (lin : Bool) (a : Word) (s : State) :
    pull8 lin (s.withPC a) = ((pull8 lin s).1, (pull8 lin s).2.withPC a) := rfl

theorem returnFromInterrupt_emulation {s : State} (he : s.e = true) :
    returnFromInterrupt s =
      let b := pull8 false s
      let v := pull16 false b.2
      (v.2.setP b.1).withPC v.1 := by
  rw [returnFromInterrupt, if_pos he, pull16_setP]

theorem returnFromInterrupt_native {s : State} (he : ¬ s.e = true) :
    returnFromInterrupt s =
      let b := pull8 false s
      let v := pull16 false b.2
      let k := pull8 false v.2
      ((k.2.setP b.1).withPC v.1).withPB k.1 := by
  rw [returnFromInterrupt, if_neg he, pull16_setP, pull8_withPC, pull8_setP]

end Sys2Proof.Machine

namespace Sys2Proof.Claim
open Sys2Proof.Machine

/-- Settles O45: RTI is its pulls, which move S and leave memory, and then the update of P and PC, in native mode of PB
too. -/
theorem rtiRestoresTheInterruptedState : Obligations.RtiRestoresTheInterruptedState := by
  intro s b f v k
  have hv : OnlyPulls s v.2 := (pull8_onlyPulls false s).trans (pull16_onlyPulls false b.2)
  have hk : OnlyPulls s k.2 := hv.trans (pull8_onlyPulls false v.2)
  refine ⟨rfl, ?_⟩
  by_cases he : s.e = true
  case pos =>
    have rti : exec .rti s = .next ((v.2.setP b.1).withPC v.1) :=
      congrArg Host.Outcome.next (returnFromInterrupt_emulation he)
    rw [setP_pulled hv] at rti
    refine ⟨_, rti, sameMemory_of_mem_eq hv.memory, ?_⟩
    simp only [if_pos he]
    rfl
  case neg =>
    have rti : exec .rti s = .next (((k.2.setP b.1).withPC v.1).withPB k.1) :=
      congrArg Host.Outcome.next (returnFromInterrupt_native he)
    rw [setP_pulled hk] at rti
    refine ⟨_, rti, sameMemory_of_mem_eq hk.memory, ?_⟩
    simp only [if_neg he]
    rfl

/-! One byte of a block move (R402) as one update of the state. C is 0xFFFF after its decrement just when it was 0. -/

theorem pred_eq_max_iff (c : Word) : c - 1 = 0xFFFF ↔ c = 0x0000 := by
  constructor <;> intro h <;> bv_omega

theorem blockStep_eq (delta : Word) (dst src : Byte) (s : State) :
    blockStep delta dst src s =
      let v := s.bus.read8 (mkAddr src s.x)
      { s with
        db := dst, c := s.c - 1, x := indexResult s.p.x (s.x + delta), y := indexResult s.p.x (s.y + delta)
        pc := if s.c = 0x0000 then s.pc else s.pc - 3, bus := v.2.write8 (mkAddr dst s.y) v.1 } := by
  simp only [← trunc_widthOf, ← pred_eq_max_iff s.c, ← beq_iff_eq (a := s.c - 1)]
  rfl

/-- Settles O48: MVN and MVP are `blockStep` by 1 and by -1; the byte is written after one read, which changes no memory. -/
theorem blockMoveMovesOneByte : Obligations.BlockMoveMovesOneByte := by
  intro s dst src r v after
  have up : exec (.mvn dst src) s = .next (after 1) := congrArg Host.Outcome.next (blockStep_eq 1 dst src s)
  have down : exec (.mvp dst src) s = .next (after (-1)) := congrArg Host.Outcome.next (blockStep_eq (-1) dst src s)
  refine ⟨⟨rfl, rfl⟩, ⟨up, down⟩, fun h => ?source, ?stored⟩
  case source => exact Bus.read8_backed s.bus _ ((State.backed_iff s _).1 h)
  case stored =>
    refine stored_of_writeW (read8_onlyReads (mkAddr src s.x) s) ?_
    rw [Bus.writeW, lo_zext16]
    rfl

/-- Settles O47: each is its meaning, one call of the entry sequence or one update of the run state. -/
theorem systemInstructionsHaveTheirEffect : Obligations.SystemInstructionsHaveTheirEffect :=
  fun _ _ => ⟨⟨rfl, rfl, rfl, rfl, rfl, rfl⟩, rfl, rfl, rfl, rfl, rfl, rfl⟩

end Sys2Proof.Claim
end

section
/-! SUPPORT and PROOFS. Exceptions (60_exceptions.md): the frame as bytes written in a row, the entry sequence and the events
of a Step boundary as one equation each, then O44 and O54. -/

namespace Sys2Proof.Machine

/-- Three pushes move S to a fourth place. -/
theorem stackDown_stackDown_stackDown_ne (e lin : Bool) (v : Word) :
    stackDown e lin (stackDown e lin (stackDown e lin v)) ≠ v := by
  have := v.isLt
  rw [Ne, ← BitVec.toNat_inj, stackDown_toNat, stackDown_toNat, stackDown_toNat]
  split <;> omega

@[simp] theorem Bus.writeCells_regions : ∀ (cells : List (Addr × Byte)) (b : Bus),
    (b.writeCells cells).regions = b.regions
  | [], _ => rfl
  | c :: cs, b => by rw [Bus.writeCells, Bus.writeCells_regions cs, Bus.write8_regions]

/-- The latch after an entry (R505), in the words of the statement. -/
theorem Interrupt.pendingAfter_eq (k : Interrupt) (v : Bool) : k.pendingAfter v = if k = .nmi then false else v := by
  cases k <;> rfl

/-! The events of a Step boundary, one equation each (R515, R630). -/

theorem stepBody_reset {s : State} (hreset : s.resetPending = true) :
    stepBody s = .next ((resetSequence s.resetKind s).withCost resetCost) := by
  rw [stepBody, if_pos hreset]

theorem stepBody_running {s : State} (hreset : s.resetPending = false) (hrun : s.run = .running) :
    stepBody s = pollThenExecute s := by
  rw [stepBody, if_neg (Bool.eq_false_iff.1 hreset), hrun]

/-- A running core without a pending reset polls its other events; emptying the Step's outputs moves none of them. -/
theorem step_running {s : State} (hreset : s.resetPending = false) (hrun : s.run = .running) :
    step s = pollThenExecute s.beginStep :=
  stepBody_running (s := s.beginStep) hreset hrun

theorem pollThenExecute_nmi {s : State} (hnmi : s.nmiPending = true) :
    pollThenExecute s = .next (interruptStep .nmi s) := by
  rw [pollThenExecute, if_pos hnmi]

theorem pollThenExecute_irq {s : State} (hnmi : s.nmiPending = false) (hirq : s.irqLine = true) (hpoll : s.iPoll = false) :
    pollThenExecute s = .next (interruptStep .irq s) := by
  have taken : (s.irqLine && !s.iPoll) = true := by rw [hirq, hpoll]; rfl
  rw [pollThenExecute, if_neg (Bool.eq_false_iff.1 hnmi), if_pos taken]

theorem pollThenExecute_instruction {s : State} (hnmi : s.nmiPending = false) (hirq : s.irqLine = true → s.iPoll = true) :
    pollThenExecute s = executeOne s := by
  have masked : ¬ (s.irqLine && !s.iPoll) = true := by simpa using hirq
  rw [pollThenExecute, if_neg (Bool.eq_false_iff.1 hnmi), if_neg masked]

end Sys2Proof.Machine

namespace Sys2Proof.Claim
open Sys2Proof.Machine

/-! The frame of an entry (R520). -/

/-- The emulation-mode frame has the addresses of a 24-bit push; the native one has one byte above such a push. -/
theorem entryFrame_nodup (k : Interrupt) (s : State) : ((entryFrame k s).map Prod.fst).Nodup := by
  rw [entryFrame]
  split
  case isTrue => exact longCells_nodup false s.pb s.pc s
  case isFalse =>
    have rest := longCells_nodup false s.pb s.pc { s with sp := below s.e false s.sp }
    refine List.nodup_cons.2 ⟨?_, rest⟩
    have once := stackDown_ne s.e false s.sp
    have twice := stackDown_stackDown_ne s.e false s.sp
    have thrice := stackDown_stackDown_stackDown_ne s.e false s.sp
    simp only [stackDown_eq_below] at once twice thrice
    simp [bank0_inj, once.symm, twice.symm, thrice.symm]

/-- The pushes of an entry, as bytes written in a row. -/
theorem pushFrame_eq (k : Interrupt) (s : State) :
    pushFrame k.bflag s =
      let d3 := below s.e false (below s.e false (below s.e false s.sp))
      { s with sp := if s.e then d3 else below s.e false d3, bus := s.bus.writeCells (entryFrame k s) } := by
  by_cases he : s.e = true
  case pos =>
    have status : pByte true = pByte s.e := congrArg pByte he.symm
    simp only [pushFrame, entryFrame, if_pos he, push16_eq_afterPushWord, push8_eq, stackDown_eq_below, status]
    rfl
  case neg =>
    have status : pByte false = pByte s.e := congrArg pByte (Bool.eq_false_iff.2 he).symm
    simp only [pushFrame, entryFrame, if_neg he, push16_eq_afterPushWord, push8_eq, stackDown_eq_below, status]
    rfl

/-- The entry sequence as one update of the state: the frame is written, then the vector read. -/
theorem takeInterrupt_eq (k : Interrupt) (s : State) :
    takeInterrupt k s =
      let d3 := below s.e false (below s.e false (below s.e false s.sp))
      let r := (s.bus.writeCells (entryFrame k s)).read16 .bank (bank0 (k.vector s.e))
      { s with
        p := { s.p with i := true, d := false }, iPoll := true, pb := 0x00, run := .running
        nmiPending := if k = .nmi then false else s.nmiPending
        sp := if s.e then d3 else below s.e false d3, pc := r.1, bus := r.2 } := by
  rw [takeInterrupt, pushFrame_eq, Interrupt.pendingAfter_eq]
  rfl

/-- Settles O44: the frame's bytes go to different addresses, and the vector is read after them, which changes no memory. -/
theorem interruptEntrySavesAndVectors : Obligations.InterruptEntrySavesAndVectors := by
  intro k s t d3 v q
  have frame : q.bus = s.bus.writeCells (entryFrame k s) := congrArg State.bus (pushFrame_eq k s)
  have entry := takeInterrupt_eq k s
  rw [← frame] at entry
  have bus : t.bus = (q.bus.read16 .bank v).2 := congrArg State.bus entry
  have same : SameMemory q t := sameMemory_of_mem_eq (by rw [bus, Bus.read16_mem])
  have written : WritesBytes (entryFrame k s) s q :=
    writesBytes_of_writeCells (OnlyReads.refl s) (entryFrame_nodup k s) frame
  refine ⟨entry, fun hlow hhigh => ?vector, written.of_sameMemory same⟩
  case vector =>
    have kept (a : Addr) : q.backed a = s.backed a := by
      simp [State.backed, Bus.kindAt, frame]
    rw [← kept] at hlow hhigh
    calc t.pc = (read16 .bank v q).1 := congrArg State.pc entry
      _ = pair (q.peek (bank0 (k.vector s.e + 1))) (q.peek v) := read16_bank_backed hlow hhigh
      _ = pair (t.peek (bank0 (k.vector s.e + 1))) (t.peek v) := by rw [same, same]

/-- Settles O54: the four cases are the branches of `stepBody` and `pollThenExecute`, in their order. -/
theorem boundaryEventsInPriorityOrder : Obligations.BoundaryEventsInPriorityOrder := by
  intro s hrun c
  refine ⟨?reset, fun hreset hnmi => ?nmi, fun hreset hnmi hirq hpoll => ?irq, fun hreset hnmi hirq => ?instruction⟩
  case reset => exact stepBody_reset (s := s.beginStep)
  case nmi => exact (step_running hreset hrun).trans (pollThenExecute_nmi (s := s.beginStep) hnmi)
  case irq => exact (step_running hreset hrun).trans (pollThenExecute_irq (s := s.beginStep) hnmi hirq hpoll)
  case instruction => exact (step_running hreset hrun).trans (pollThenExecute_instruction (s := s.beginStep) hnmi hirq)

end Sys2Proof.Claim
end

section
/-! SUPPORT and PROOFS. Reset and hazards (70_reset_and_hazards.md): what a 16-bit read logs, what the reset sequence forces and
keeps, the Steps of a stopped and of a waiting core as one equation each, then O53 and O55. -/

namespace Sys2Proof.Machine

/-! The accesses a read logs (R80, R84): the byte it answers, the lower address first. -/

@[simp] theorem Bus.read8_log (b : Bus) (a : Addr) : (b.read8 a).2.log = .read a (b.read8 a).1 :: b.log := by
  unfold Bus.read8; split <;> rfl

theorem Bus.read16_log (b : Bus) (st : AddrStep) (a : Addr) :
    ∃ l h, (b.read16 st a).1 = pair h l ∧ (b.read16 st a).2.log = .read (st.next a) h :: .read a l :: b.log :=
  ⟨_, _, rfl, by rw [Bus.read16, Bus.read8_log, Bus.read8_log]⟩

/-! The reset sequence (R600). -/

/-- The flags a reset forces, whatever its kind. -/
theorem resetFlags_forced (k : ResetKind) (p : Flags) :
    (resetFlags k p).m = true ∧ (resetFlags k p).x = true ∧ (resetFlags k p).d = false ∧ (resetFlags k p).i = true := by
  cases k <;> exact ⟨rfl, rfl, rfl, rfl⟩

/-- Either kind zero-extends a byte into X and into Y: the 0x00 of log entry 1, or the low byte that stood there. -/
theorem resetSequence_hi_index (k : ResetKind) (s : State) :
    hi (resetSequence k s).x = 0x00 ∧ hi (resetSequence k s).y = 0x00 := by
  cases k <;> exact ⟨hi_zext16 _, hi_zext16 _⟩

theorem resetSequence_hi_sp (k : ResetKind) (s : State) : hi (resetSequence k s).sp = 0x01 := hi_pair _ _

theorem resetSequence_mem (k : ResetKind) (s : State) : (resetSequence k s).bus.mem = s.bus.mem :=
  Bus.read16_mem s.bus .bank (bank0 0xFFFC)

/-- PC is the word the two logged reads answer. -/
theorem resetSequence_readsVector (k : ResetKind) (s : State) :
    ∃ l h, (resetSequence k s).pc = pair h l ∧
      (resetSequence k s).bus.log = .read 0x00FFFD h :: .read 0x00FFFC l :: s.bus.log := by
  have high : AddrStep.bank.next (bank0 0xFFFC) = 0x00FFFD := by decide
  rw [← high]
  exact Bus.read16_log s.bus .bank (bank0 0xFFFC)

theorem resetSequence_soft_keeps {k : ResetKind} (hk : k = .soft) (s : State) :
    (resetSequence k s).c = s.c ∧ lo (resetSequence k s).x = lo s.x ∧ lo (resetSequence k s).y = lo s.y ∧
      (resetSequence k s).p.n = s.p.n ∧ (resetSequence k s).p.v = s.p.v ∧ (resetSequence k s).p.z = s.p.z ∧
      (resetSequence k s).p.c = s.p.c := by
  subst hk
  exact ⟨rfl, lo_zext16 _, lo_zext16 _, rfl, rfl, rfl, rfl⟩

/-! The Steps of a stopped and of a waiting core (R396, R397, R631). -/

theorem Params.one_le_waitStepCycles {q : Params} (hwf : q.wf = true) : 1 ≤ q.waitStepCycles :=
  of_decide_eq_true (Bool.and_eq_true_iff.1 hwf).1

theorem stepBody_stopped {s : State} (hreset : s.resetPending = false) (hrun : s.run = .stopped) :
    stepBody s = .next (idleStep s) := by
  rw [stepBody, if_neg (Bool.eq_false_iff.1 hreset), hrun]

theorem stepBody_waiting {s : State} (hreset : s.resetPending = false) (hrun : s.run = .waiting) :
    stepBody s = if !s.nmiPending && !s.irqLine then .next (idleStep s) else wakeStep s := by
  rw [stepBody, if_neg (Bool.eq_false_iff.1 hreset), hrun]

theorem stepBody_waiting_idle {s : State} (hreset : s.resetPending = false) (hrun : s.run = .waiting)
    (hnmi : s.nmiPending = false) (hirq : s.irqLine = false) : stepBody s = .next (idleStep s) := by
  have quiet : (!s.nmiPending && !s.irqLine) = true := by rw [hnmi, hirq]; rfl
  rw [stepBody_waiting hreset hrun, if_pos quiet]

theorem stepBody_waiting_wakes {s : State} (hreset : s.resetPending = false) (hrun : s.run = .waiting)
    (hinput : s.nmiPending = true ∨ s.irqLine = true) : stepBody s = wakeStep s := by
  have asserted : ¬ (!s.nmiPending && !s.irqLine) = true := by
    obtain hnmi | hirq := hinput
    · simp [hnmi]
    · simp [hirq]
  rw [stepBody_waiting hreset hrun, if_neg asserted]

theorem wakeStep_resumes {s : State} (hnmi : s.nmiPending = false) (hmask : s.p.i = true) :
    wakeStep s = executeOne (s.withRun .running) := by
  have masked : (!s.nmiPending && s.p.i) = true := by rw [hnmi, hmask]; rfl
  rw [wakeStep, if_pos masked]

theorem wakeStep_polls {s : State} (hinput : s.nmiPending = true ∨ s.p.i = false) :
    wakeStep s = pollThenExecute (s.withRun .running) := by
  have unmasked : ¬ (!s.nmiPending && s.p.i) = true := by
    obtain hnmi | hmask := hinput
    · simp [hnmi]
    · simp [hmask]
  rw [wakeStep, if_neg unmasked]

end Sys2Proof.Machine

namespace Sys2Proof.Claim
open Sys2Proof.Machine

/-- Settles O53: a pending reset is the first branch of `stepBody`; the vector is read from a bus with an empty log, and the
read changes no memory. -/
theorem resetForcesItsValues : Obligations.ResetForcesItsValues := by
  intro s hreset
  obtain ⟨hm, hx, hd, hmask⟩ := resetFlags_forced s.resetKind s.p
  obtain ⟨hX, hY⟩ := resetSequence_hi_index s.resetKind s.beginStep
  refine ⟨_, stepBody_reset (s := s.beginStep) hreset, rfl, hm, hx, hd, hmask, rfl, hX, hY,
    resetSequence_hi_sp s.resetKind s.beginStep, rfl, rfl, rfl, rfl, rfl, rfl, rfl,
    resetSequence_mem s.resetKind s.beginStep, rfl, rfl,
    resetSequence_readsVector s.resetKind s.beginStep, fun hlow hhigh => ?vector, fun hsoft => ?soft⟩
  case vector => exact read16_bank_backed (s := s.beginStep) (k := 0x00) (o := 0xFFFC) hlow hhigh
  case soft => exact resetSequence_soft_keeps hsoft s.beginStep

/-- Settles O55: the clauses are the branches of `stepBody` and `wakeStep`; a core that wakes to an event it takes polls
as a running core does. -/
theorem stoppedAndWaitingStates : Obligations.StoppedAndWaitingStates := by
  intro s hreset idle
  refine ⟨Params.one_le_waitStepCycles, fun hrun => ?stopped, fun hrun hnmi hirq => ?quiet, fun hrun hnmi hirq hmask => ?resumes,
    fun hrun hinput => ?polls⟩
  case stopped => exact stepBody_stopped (s := s.beginStep) hreset hrun
  case quiet => exact stepBody_waiting_idle (s := s.beginStep) hreset hrun hnmi hirq
  case resumes =>
    exact (stepBody_waiting_wakes (s := s.beginStep) hreset hrun (.inr hirq)).trans
      (wakeStep_resumes (s := s.beginStep) hnmi hmask)
  case polls =>
    have asserted : s.nmiPending = true ∨ s.irqLine = true := hinput.imp_right And.left
    have taken : s.nmiPending = true ∨ s.p.i = false := hinput.imp_right And.right
    calc step s
      _ = wakeStep s.beginStep := stepBody_waiting_wakes (s := s.beginStep) hreset hrun asserted
      _ = pollThenExecute (s.beginStep.withRun .running) := wakeStep_polls (s := s.beginStep) taken
      _ = step { s with run := .running } := (step_running (s := { s with run := .running }) hreset rfl).symm

end Sys2Proof.Claim
end

section
/-! SUPPORT and PROOFS. Decoding and encoding (30_encoding.md): every cell of the opcode map agrees with the encoder, every
instruction has a cell, then O1 to O5. -/

namespace Sys2Proof

/-- The number of operand bytes an instruction is made from (R122, R124). -/
def Maker.operandBytes (w : Widths) : Maker → Nat
  | .none _  => 0
  | .byte _  => 1
  | .word _  => 2
  | .long _  => 3
  | .immM _  => if w.m then 1 else 2
  | .immX _  => if w.x then 1 else 2
  | .block _ => 2

/-- The instructions a maker makes encode to the opcode and their operand bytes, and are well formed. -/
def Maker.Encodes (w : Widths) (op : Byte) : Maker → Prop
  | .none i  => encode i = [op] ∧ i.wf w = true
  | .byte k  => (∀ b, encode (k b) = [op, b]) ∧ ∀ b, (k b).wf w = true
  | .word k  => (∀ a, encode (k a) = [op, loByte a, hiByte a]) ∧ ∀ a, (k a).wf w = true
  | .long k  => (∀ al, encode (k al) = op :: longBytes al) ∧ ∀ al, (k al).wf w = true
  | .immM k  => (∀ v, encode (k v) = op :: v.bytes) ∧ ∀ v, (k v).wf w = v.fits w.m
  | .immX k  => (∀ v, encode (k v) = op :: v.bytes) ∧ ∀ v, (k v).wf w = v.fits w.x
  | .block k => (∀ t u, encode (k t u) = [op, t, u]) ∧ ∀ t u, (k t u).wf w = true

/-- The cell of an opcode agrees with the encoder: as many operand bytes, and the encoding of what it makes. -/
def OpcodeEntry.Agrees (w : Widths) (op : Byte) (e : OpcodeEntry) : Prop :=
  e.format.operandBytes w = e.make.operandBytes w ∧ e.make.Encodes w op

/-- `P` holds of every element with its place, the first place being `op` and the distance of two being `step`. -/
def PlacedFrom {α : Type} (P : Byte → α → Prop) (step : Nat) (op : Byte) : List α → Prop
  | [] => True
  | e :: es => P op e ∧ PlacedFrom P step (op + BitVec.ofNat 8 step) es

theorem PlacedFrom.getD {α : Type} {P : Byte → α → Prop} {step : Nat} {op : Byte} {es : List α}
    (h : PlacedFrom P step op es) (d : α) {n : Nat} (hn : n < es.length) :
    P (op + BitVec.ofNat 8 (step * n)) (es.getD n d) := by
  induction es generalizing op n with
  | nil => exact absurd hn (Nat.not_lt_zero n)
  | cons e es ih =>
    obtain ⟨first, rest⟩ := h
    cases n with
    | zero => rwa [List.getD_cons_zero, Nat.mul_zero, BitVec.add_zero]
    | succ n =>
      have next := ih rest (Nat.lt_of_succ_lt_succ hn)
      rwa [BitVec.add_assoc, ← BitVec.ofNat_add, Nat.add_comm, ← Nat.mul_succ] at next

/-- The cells of a row of 16 agree with the encoder, the first being that of opcode `op`. -/
def RowAgrees (w : Widths) (op : Byte) (row : List OpcodeEntry) : Prop :=
  row.length = 16 ∧ PlacedFrom (OpcodeEntry.Agrees w) 1 op row

/-- Cell by cell, by evaluation. -/
theorem opcodeMap_agrees (w : Widths) : PlacedFrom (RowAgrees w) 16 0#8 opcodeMap := by
  repeat' apply And.intro
  all_goals (intros; trivial)

theorem opcodeEntry_agrees (w : Widths) (op : Byte) : (opcodeEntry op).Agrees w op := by
  have hrow : op.toNat / 16 < 16 := by omega
  obtain ⟨length, row⟩ := (opcodeMap_agrees w).getD [] hrow
  have cell := row.getD ⟨.imp, .none .nop⟩ (n := op.toNat % 16) (by omega)
  rwa [BitVec.zero_add, ← BitVec.ofNat_add, Nat.one_mul, Nat.div_add_mod, BitVec.ofNat_toNat, BitVec.setWidth_eq] at cell

/-! Operand bytes put together and taken apart (R11, R123). -/

theorem loByte_append (b2 b1 : Byte) : loByte (b2 ++ b1) = b1 := Machine.lo_pair b2 b1

theorem hiByte_append (b2 b1 : Byte) : hiByte (b2 ++ b1) = b2 := Machine.hi_pair b2 b1

theorem hiByte_append_loByte (a : Word) : hiByte a ++ loByte a = a := Machine.pair_hi_lo a

theorem longBytes_append (b3 b2 b1 : Byte) : longBytes (b3 ++ (b2 ++ b1 : Word)) = [b1, b2, b3] := by
  have field := Machine.longBytes_eq (Machine.mkAddr b3 (Machine.pair b2 b1))
  rwa [Machine.offOf_mkAddr, Machine.bankOf_mkAddr, Machine.lo_pair, Machine.hi_pair] at field

theorem operandLong_longBytes (al : Addr) : operandLong (longBytes al) = al := by
  rw [Machine.longBytes_eq, operandLong]
  show Machine.mkAddr (Machine.bankOf al) (Machine.pair _ _) = al
  rw [Machine.pair_hi_lo, ← BitVec.toNat_inj, Machine.toNat_mkAddr, Machine.toNat_bankOf, Machine.toNat_offOf]
  omega

/-- The instructions a maker makes. -/
inductive Maker.Makes : Maker → Instr → Prop
  | none (i : Instr) : Makes (.none i) i
  | byte (k : Byte → Instr) (b : Byte) : Makes (.byte k) (k b)
  | word (k : Word → Instr) (a : Word) : Makes (.word k) (k a)
  | long (k : Addr → Instr) (al : Addr) : Makes (.long k) (k al)
  | immM (k : Imm → Instr) (v : Imm) : Makes (.immM k) (k v)
  | immX (k : Imm → Instr) (v : Imm) : Makes (.immX k) (k v)
  | block (k : Byte → Byte → Instr) (t u : Byte) : Makes (.block k) (k t u)

/-- The opcode byte of an instruction (R120). -/
def Instr.opcode (i : Instr) : Byte := (encode i).headD 0x00

/-- Every instruction stands in the map, under its opcode. -/
theorem opcodeEntry_makes (i : Instr) : (opcodeEntry i.opcode).make.Makes i := by
  cases i <;> (dsimp only [Instr.opcode, encode, List.headD_cons]; constructor)

/-- An immediate of the selected width is its bytes (R124). -/
theorem operandImm_bytes {flag : Bool} {v : Imm} (h : v.fits flag = true) : operandImm flag v.bytes = v := by
  cases v with
  | b8 v => rw [show flag = true from h]; rfl
  | b16 v =>
    rw [show flag = false by simpa [Imm.fits] using h]
    exact congrArg Imm.b16 (hiByte_append_loByte v)

theorem length_bytes_of_fits {flag : Bool} {v : Imm} (h : v.fits flag = true) :
    v.bytes.length = if flag then 1 else 2 := by
  cases v with
  | b8 v => rw [show flag = true from h]; rfl
  | b16 v => rw [show flag = false by simpa [Imm.fits] using h]; rfl

/-- The immediate made of as many bytes as the flag selects fits, and has these bytes. -/
theorem bytes_operandImm {flag : Bool} {bs : List Byte} (h : bs.length = if flag then 1 else 2) :
    (operandImm flag bs).bytes = bs ∧ (operandImm flag bs).fits flag = true := by
  cases flag with
  | true =>
    obtain ⟨b, rfl⟩ := List.length_eq_one_iff.1 h
    exact ⟨rfl, rfl⟩
  | false =>
    obtain ⟨b1, b2, rfl⟩ := List.length_eq_two.1 h
    exact ⟨congrArg₂ (fun l h => [l, h]) (loByte_append b2 b1) (hiByte_append b2 b1), rfl⟩

/-- From as many operand bytes as it asks for, a maker builds a well-formed instruction that encodes to those bytes. -/
theorem Maker.encode_build {w : Widths} {op : Byte} {mk : Maker} (h : mk.Encodes w op) {bs : List Byte}
    (hlen : bs.length = mk.operandBytes w) : encode (mk.build w bs) = op :: bs ∧ (mk.build w bs).wf w = true := by
  cases mk with
  | none i =>
    obtain rfl := List.length_eq_zero_iff.1 hlen
    exact h
  | byte k =>
    obtain ⟨b, rfl⟩ := List.length_eq_one_iff.1 hlen
    exact ⟨h.1 b, h.2 b⟩
  | word k =>
    obtain ⟨b1, b2, rfl⟩ := List.length_eq_two.1 hlen
    refine ⟨(h.1 (b2 ++ b1)).trans ?_, h.2 (b2 ++ b1)⟩
    rw [loByte_append, hiByte_append]
  | long k =>
    obtain ⟨b1, b2, b3, rfl⟩ := List.length_eq_three.1 hlen
    exact ⟨(h.1 _).trans (congrArg (op :: ·) (longBytes_append b3 b2 b1)), h.2 _⟩
  | immM k =>
    obtain ⟨bytes, fits⟩ := bytes_operandImm (flag := w.m) hlen
    exact ⟨(h.1 _).trans (congrArg (op :: ·) bytes), (h.2 _).trans fits⟩
  | immX k =>
    obtain ⟨bytes, fits⟩ := bytes_operandImm (flag := w.x) hlen
    exact ⟨(h.1 _).trans (congrArg (op :: ·) bytes), (h.2 _).trans fits⟩
  | block k =>
    obtain ⟨t, u, rfl⟩ := List.length_eq_two.1 hlen
    exact ⟨h.1 t u, h.2 t u⟩

/-- A well-formed instruction that a maker makes is built from the bytes its encoding has after the opcode. -/
theorem Maker.Makes.build_eq {w : Widths} {op : Byte} {mk : Maker} {i : Instr} (hi : mk.Makes i) (h : mk.Encodes w op)
    (hwf : i.wf w = true) : ∃ bs, encode i = op :: bs ∧ bs.length = mk.operandBytes w ∧ mk.build w bs = i := by
  cases hi with
  | none => exact ⟨[], h.1, rfl, rfl⟩
  | byte k b => exact ⟨[b], h.1 b, rfl, rfl⟩
  | word k a => exact ⟨_, h.1 a, rfl, congrArg k (hiByte_append_loByte a)⟩
  | long k al => exact ⟨_, h.1 al, rfl, congrArg k (operandLong_longBytes al)⟩
  | immM k v =>
    have fits : v.fits w.m = true := (h.2 v).symm.trans hwf
    exact ⟨_, h.1 v, length_bytes_of_fits fits, congrArg k (operandImm_bytes fits)⟩
  | immX k v =>
    have fits : v.fits w.x = true := (h.2 v).symm.trans hwf
    exact ⟨_, h.1 v, length_bytes_of_fits fits, congrArg k (operandImm_bytes fits)⟩
  | block k t u => exact ⟨_, h.1 t u, rfl, rfl⟩

theorem Maker.operandBytes_le (w : Widths) (mk : Maker) : mk.operandBytes w ≤ 3 := by
  cases mk with
  | none | byte | word | long | block => simp [Maker.operandBytes]
  | immM | immX => rw [Maker.operandBytes]; split <;> decide

/-! The decoder on an opcode and its operand bytes (R120 to R125). -/

theorem decode_append {w : Widths} {op : Byte} {bs : List Byte} (rest : List Byte)
    (hlen : bs.length = (opcodeEntry op).make.operandBytes w) :
    decode w (op :: bs ++ rest) = .ok ((opcodeEntry op).make.build w bs, rest) := by
  obtain ⟨same, -⟩ := opcodeEntry_agrees w op
  have enough : ¬ (bs ++ rest).length < (opcodeEntry op).format.operandBytes w := by
    rw [same, ← hlen, List.length_append]; omega
  rw [List.cons_append, decode, if_neg enough, same, ← hlen, List.take_left, List.drop_left]

theorem decode_eq_ok {w : Widths} {bs rest : List Byte} {i : Instr} (h : decode w bs = .ok (i, rest)) :
    ∃ op os, bs = op :: os ++ rest ∧ os.length = (opcodeEntry op).make.operandBytes w ∧
      i = (opcodeEntry op).make.build w os := by
  cases bs with
  | nil => cases h
  | cons op bs =>
    rw [decode] at h
    split at h
    · cases h
    next enough =>
      cases h
      rw [(opcodeEntry_agrees w op).1] at enough ⊢
      exact ⟨op, _, (congrArg (op :: ·) (List.take_append_drop _ bs)).symm,
        List.length_take_of_le (Nat.le_of_not_lt enough), rfl⟩

end Sys2Proof

namespace Sys2Proof.Claim
open Sys2Proof.Machine

/-- Settles O2: an instruction stands in the map under its opcode, and the maker there builds it from its operand bytes. -/
theorem decodeOfEncodeIsTheInstruction : Obligations.DecodeOfEncodeIsTheInstruction := by
  intro w i rest hwf
  obtain ⟨bs, bytes, length, build⟩ := (opcodeEntry_makes i).build_eq (opcodeEntry_agrees w i.opcode).2 hwf
  rw [bytes, decode_append rest length, build]

/-- Settles O3: the decoder builds the instruction from the operand bytes its opcode asks for, which it encodes to. -/
theorem encodeOfDecodeIsTheBytes : Obligations.EncodeOfDecodeIsTheBytes := by
  intro w bs rest i h
  obtain ⟨op, os, rfl, length, rfl⟩ := decode_eq_ok h
  obtain ⟨bytes, wf⟩ := Maker.encode_build (opcodeEntry_agrees w op).2 length
  exact ⟨wf, by rw [bytes]⟩

/-- Settles O4: three bytes after the opcode are as many as any instruction asks for. -/
theorem everyOpcodeByteIsAnInstruction : Obligations.EveryOpcodeByteIsAnInstruction := by
  intro w op b1 b2 b3 rest
  have length : ([b1, b2, b3].take ((opcodeEntry op).make.operandBytes w)).length = (opcodeEntry op).make.operandBytes w :=
    List.length_take_of_le (Maker.operandBytes_le w _)
  have read := decode_append (([b1, b2, b3].drop ((opcodeEntry op).make.operandBytes w)) ++ rest) length
  rw [List.cons_append, ← List.append_assoc, List.take_append_drop] at read
  exact ⟨_, _, read, by rw [(Maker.encode_build (opcodeEntry_agrees w op).2 length).1]; rfl⟩

/-- One of the immediates of R124 whose flag is `flag`: its length follows the flag. -/
theorem immediate_length {w : Widths} {op : Byte} {flag : Bool}
    (hop : (opcodeEntry op).make.operandBytes w = if flag then 1 else 2) (b1 b2 : Byte) (rest : List Byte) :
    ∃ i, decode w (op :: b1 :: b2 :: rest) = .ok (i, if flag then b2 :: rest else rest) ∧
      i.length = if flag then 2 else 3 := by
  cases flag with
  | true =>
    refine ⟨_, decode_append (bs := [b1]) (b2 :: rest) hop.symm, ?_⟩
    rw [Instr.length, (Maker.encode_build (bs := [b1]) (opcodeEntry_agrees w op).2 hop.symm).1]; rfl
  | false =>
    refine ⟨_, decode_append (bs := [b1, b2]) rest hop.symm, ?_⟩
    rw [Instr.length, (Maker.encode_build (bs := [b1, b2]) (opcodeEntry_agrees w op).2 hop.symm).1]; rfl

/-- Settles O5: an encoding is the opcode and at most three operand bytes; the twelve opcodes ask for an immediate of the
width of their flag. -/
theorem immediateLengthFollowsTheWidthFlag : Obligations.ImmediateLengthFollowsTheWidthFlag := by
  refine ⟨fun w i hwf => ?length, fun w op b1 b2 rest hop => immediate_length ?m b1 b2 rest,
    fun w op b1 b2 rest hop => immediate_length ?x b1 b2 rest⟩
  case length =>
    obtain ⟨bs, bytes, length, -⟩ := (opcodeEntry_makes i).build_eq (opcodeEntry_agrees w i.opcode).2 hwf
    have := Maker.operandBytes_le w (opcodeEntry i.opcode).make
    rw [Instr.length, bytes, List.length_cons]
    omega
  case m =>
    simp only [List.mem_cons, List.not_mem_nil, or_false] at hop
    obtain rfl | rfl | rfl | rfl | rfl | rfl | rfl | rfl := hop <;> rfl
  case x =>
    simp only [List.mem_cons, List.not_mem_nil, or_false] at hop
    obtain rfl | rfl | rfl | rfl := hop <;> rfl

/-- Settles O1: each of the thirteen by evaluation. -/
theorem tableWordsDecode : Obligations.TableWordsDecode :=
  ⟨rfl, rfl, rfl, rfl, rfl, rfl, rfl, rfl, rfl, rfl, rfl, rfl, rfl⟩

end Sys2Proof.Claim
end

section
/-! SUPPORT and PROOFS. What an instruction can do, said once: bus and stack accesses, then one kind of update; from it O49,
O50 and the part of the invariant that every instruction keeps. -/

namespace Sys2Proof.Machine

/-! Accesses: what reads, stores, pushes, pulls and jumps do to the state. -/

/-- S, PC and the bus may move; the regions and the canonical form of memory stay, and so does every other field. -/
structure Accesses (s t : State) : Prop where
  state   : t = { s with sp := t.sp, pc := t.pc, bus := t.bus }
  regions : t.bus.regions = s.bus.regions
  wf      : s.bus.mem.wf = true → t.bus.mem.wf = true

theorem Accesses.refl (s : State) : Accesses s s := ⟨rfl, rfl, id⟩

theorem Accesses.trans {s t u : State} (h : Accesses s t) (h' : Accesses t u) : Accesses s u := by
  refine ⟨?_, h'.regions.trans h.regions, h'.wf ∘ h.wf⟩
  have e := h'.state
  rw [h.state] at e
  exact e

theorem Accesses.p_eq {s t : State} (h : Accesses s t) : t.p = s.p := by rw [h.state]

theorem OnlyReads.accesses {s t : State} (h : OnlyReads s t) : Accesses s t := by
  refine ⟨?_, h.regions, fun hwf => h.memory ▸ hwf⟩
  have e := h.state
  rw [e]

theorem withSP_accesses (v : Word) (s : State) : Accesses s (s.withSP v) := ⟨rfl, rfl, id⟩

theorem withPC_accesses (v : Word) (s : State) : Accesses s (s.withPC v) := ⟨rfl, rfl, id⟩

theorem write8_accesses (a : Addr) (v : Byte) (s : State) : Accesses s (write8 a v s) :=
  ⟨rfl, Bus.write8_regions _ _ _, Bus.write8_wf _ _ _⟩

theorem memWrite_accesses (w : Width) (ea : EA) (v : Word) (s : State) : Accesses s (memWrite w ea v s) :=
  ⟨rfl, Bus.writeW_regions _ _ _ _ _, Bus.writeW_wf _ _ _ _ _⟩

theorem memWriteRmw_accesses (w : Width) (ea : EA) (v : Word) (s : State) : Accesses s (memWriteRmw w ea v s) :=
  ⟨rfl, Bus.writeRmw_regions _ _ _ _ _, Bus.writeRmw_wf _ _ _ _ _⟩

theorem push8_accesses (lin : Bool) (v : Byte) (s : State) : Accesses s (push8 lin v s) :=
  (write8_accesses _ v s).trans (withSP_accesses _ _)

theorem push16_accesses (lin : Bool) (v : Word) (s : State) : Accesses s (push16 lin v s) :=
  (push8_accesses lin (hi v) s).trans (push8_accesses lin (lo v) _)

theorem pushW_accesses (lin : Bool) (w : Width) (v : Word) (s : State) : Accesses s (pushW lin w v s) := by
  cases w with
  | w8 => exact push8_accesses lin (lo v) s
  | w16 => exact push16_accesses lin v s

theorem pull8_accesses (lin : Bool) (s : State) : Accesses s (pull8 lin s).2 :=
  (withSP_accesses _ s).trans (read8_onlyReads _ _).accesses

theorem pull16_accesses (lin : Bool) (s : State) : Accesses s (pull16 lin s).2 :=
  (pull8_accesses lin s).trans (pull8_accesses lin _)

theorem pullW_accesses (lin : Bool) (w : Width) (s : State) : Accesses s (pullW lin w s).2 := by
  cases w with
  | w8 => exact pull8_accesses lin s
  | w16 => exact pull16_accesses lin s

theorem pushFrame_accesses (bflag : Bool) (s : State) : Accesses s (pushFrame bflag s) := by
  have bank : Accesses s (if s.e then s else push8 false s.pb s) := by
    split
    · exact Accesses.refl s
    · exact push8_accesses false s.pb s
  exact (bank.trans (push16_accesses false s.pc _)).trans (push8_accesses false _ _)

/-! XCE (R380), by the value of c. -/

theorem exchangeCarry_clear {s : State} (hc : s.p.c = false) :
    exchangeCarry s = (s.withE false).withP { s.p with c := s.e } := by
  simp only [exchangeCarry, hc, Bool.or_false] <;> rfl

theorem exchangeCarry_set {s : State} (hc : s.p.c = true) :
    exchangeCarry s =
      ((s.withE true).setFlags { s.p with c := s.e, m := true, x := true }).withSP (pair 0x01 (lo s.sp)) := by
  simp only [exchangeCarry, hc, Bool.or_true] <;> rfl

/-! The addressing modes and the operands of instructions (40_addressing_modes.md). -/

/-- The modes of a memory operand (R161 to R175). -/
inductive Mode : (State → EA × State) → Prop
  | dp (d : Byte) : Mode (eaDp d)
  | dpX (d : Byte) : Mode (eaDpX d)
  | dpY (d : Byte) : Mode (eaDpY d)
  | dpInd (d : Byte) : Mode (eaDpInd d)
  | dpIndX (d : Byte) : Mode (eaDpIndX d)
  | dpIndY (d : Byte) : Mode (eaDpIndY d)
  | dpIndL (op d : Byte) : Mode (eaDpIndL op d)
  | dpIndLY (op d : Byte) : Mode (eaDpIndLY op d)
  | abs (a : Word) : Mode (eaAbs a)
  | absX (a : Word) : Mode (eaAbsX a)
  | absY (a : Word) : Mode (eaAbsY a)
  | absL (al : Addr) : Mode (eaAbsL al)
  | absLX (al : Addr) : Mode (eaAbsLX al)
  | sr (n : Byte) : Mode (eaSr n)
  | srIndY (n : Byte) : Mode (eaSrIndY n)

theorem Mode.onlyReads {ea : State → EA × State} (h : Mode ea) (s : State) : OnlyReads s (ea s).2 := by
  cases h with
  | dp d => exact eaDp_onlyReads d s
  | dpX d => exact eaDpX_onlyReads d s
  | dpY d => exact eaDpY_onlyReads d s
  | dpInd d => exact eaDpInd_onlyReads d s
  | dpIndX d => exact eaDpIndX_onlyReads d s
  | dpIndY d => exact eaDpIndY_onlyReads d s
  | dpIndL op d => exact eaDpIndL_onlyReads op d s
  | dpIndLY op d => exact eaDpIndLY_onlyReads op d s
  | abs a => exact eaAbs_onlyReads a s
  | absX a => exact eaAbsX_onlyReads a s
  | absY a => exact eaAbsY_onlyReads a s
  | absL al => exact eaAbsL_onlyReads al s
  | absLX al => exact eaAbsLX_onlyReads al s
  | sr n => exact eaSr_onlyReads n s
  | srIndY n => exact eaSrIndY_onlyReads n s

/-- An immediate, or what stands at the address of a mode (R160 to R175). -/
inductive Operand (w : State → Width) : (State → Word × State) → Prop
  | imm (v : Imm) : Operand w (immOperand w v)
  | mem {ea : State → EA × State} : Mode ea → Operand w (memOperand w ea)

theorem Operand.accesses {w : State → Width} {operand : State → Word × State} (h : Operand w operand) (s : State) :
    Accesses s (operand s).2 := by
  cases h with
  | imm v => exact Accesses.refl s
  | mem h => exact (memOperand_onlyReads w _ s (h.onlyReads s)).accesses

theorem mem_of_among {m : String} {names names' : List String} (hm : m ∈ names) (h : names ⊆ names' := by decide) :
    m ∈ names' := h hm

/-! The flags an instruction writes, by mnemonic (R53); the width flags m and x are not among them. -/

/-- Under mnemonic `m` the flags go from `p` to the second index. -/
inductive FlagUpdate (m : String) (p : Flags) : Flags → Prop
  | nz (n z : Bool) (hm : m ∈ ["AND", "ORA", "EOR", "INC", "DEC", "INX", "INY", "DEX", "DEY", "LDA", "LDX", "LDY", "PLA",
      "PLX", "PLY", "PLB", "PLD", "TAX", "TAY", "TXA", "TYA", "TXY", "TYX", "TSX", "TCD", "TDC", "TSC", "XBA"]) :
      FlagUpdate m p { p with n := n, z := z }
  | nzc (n z c : Bool) (hm : m ∈ ["CMP", "CPX", "CPY", "ASL", "LSR", "ROL", "ROR"]) :
      FlagUpdate m p { p with n := n, z := z, c := c }
  | nvzc (n v z c : Bool) (hm : m ∈ ["ADC", "SBC"]) : FlagUpdate m p { p with n := n, v := v, z := z, c := c }
  | nvz (n v z : Bool) (hm : m ∈ ["BIT"]) : FlagUpdate m p { p with n := n, v := v, z := z }
  | z (z : Bool) (hm : m ∈ ["TSB", "TRB", "BIT"]) : FlagUpdate m p { p with z := z }
  | c (c : Bool) (hm : m ∈ ["CLC", "SEC"]) : FlagUpdate m p { p with c := c }
  | i (i : Bool) (hm : m ∈ ["CLI", "SEI"]) : FlagUpdate m p { p with i := i }
  | d (d : Bool) (hm : m ∈ ["CLD", "SED"]) : FlagUpdate m p { p with d := d }
  | v (v : Bool) (hm : m ∈ ["CLV"]) : FlagUpdate m p { p with v := v }

/-- The updates of an entry beside its pushes and the read of the vector (R520). -/
def State.enterHandler (s : State) : State :=
  (((s.withP { s.p with i := true, d := false }).withIPoll true).withPB 0x00).withRun .running

/-- What an instruction with mnemonic `m` does to the state `s`: accesses, then one kind of update. -/
inductive Effect (s : State) (m : String) : State → Prop
  | access {u : State} (h : Accesses s u) : Effect s m u
  | flags {u : State} {p : Flags} (h : Accesses s u) (hp : FlagUpdate m s.p p) : Effect s m (u.withP p)
  | acc {u : State} {p : Flags} (v : Word) (h : Accesses s u) (hp : FlagUpdate m s.p p) :
      Effect s m ((u.setAcc v).withP p)
  | wideAcc {p : Flags} (v : Word) (hp : FlagUpdate m s.p p) : Effect s m ((s.withC v).withP p)
  | indexX {u : State} {p : Flags} (v : Word) (h : Accesses s u) (hp : FlagUpdate m s.p p) :
      Effect s m ((u.setX v).withP p)
  | indexY {u : State} {p : Flags} (v : Word) (h : Accesses s u) (hp : FlagUpdate m s.p p) :
      Effect s m ((u.setY v).withP p)
  | directPage {u : State} {p : Flags} (v : Word) (h : Accesses s u) (hp : FlagUpdate m s.p p)
      (hm : m ∈ ["TCD", "PLD"]) : Effect s m ((u.withD v).withP p)
  | dataBank {u : State} {p : Flags} (v : Byte) (h : Accesses s u) (hp : FlagUpdate m s.p p) (hm : m ∈ ["PLB"]) :
      Effect s m ((u.withDB v).withP p)
  | programBank {u : State} (v : Byte) (h : Accesses s u) (hm : m ∈ ["JML", "JSL", "RTL"]) : Effect s m (u.withPB v)
  | run (r : RunState) : Effect s m (s.withRun r)
  | rep (b : Byte) (hm : m ∈ ["REP"]) : Effect s m (s.withP (repFlags s.e b s.p))
  | sep (b : Byte) (hm : m ∈ ["SEP"]) : Effect s m (s.setFlags (sepFlags s.e b s.p))
  | status {u : State} (b : Byte) (h : Accesses s u) (hm : m ∈ ["PLP", "RTI"]) : Effect s m (u.setP b)
  | statusBank {u : State} (b k : Byte) (h : Accesses s u) (hm : m ∈ ["RTI"]) : Effect s m ((u.setP b).withPB k)
  | native (hm : m ∈ ["XCE"]) : Effect s m ((s.withE false).withP { s.p with c := s.e })
  | emulation (hm : m ∈ ["XCE"]) :
      Effect s m (((s.withE true).setFlags { s.p with c := s.e, m := true, x := true }).withSP (pair 0x01 (lo s.sp)))
  | block {u : State} (t : Byte) (x y c : Word) (h : Accesses s u) (hm : m ∈ ["MVN", "MVP"]) :
      Effect s m ((((u.withDB t).setX x).setY y).withC c)
  | entry {u : State} (h : Accesses s u) (hm : m ∈ ["BRK", "COP"]) :
      Effect s m u.enterHandler

/-- An entry, for an instruction or at a Step boundary: accesses after the latch of an NMI is cleared, then the updates. -/
theorem takeInterrupt_accesses (k : Interrupt) (s : State) :
    ∃ u, Accesses (s.withNmiPending (k.pendingAfter s.nmiPending)) u ∧ takeInterrupt k s = u.enterHandler := by
  let pushed := pushFrame k.bflag (s.withNmiPending (k.pendingAfter s.nmiPending))
  let v := read16 .bank (bank0 (k.vector s.e)) pushed
  have vector := (read16_onlyReads .bank (bank0 (k.vector s.e)) pushed).accesses.trans (withPC_accesses v.1 v.2)
  exact ⟨_, (pushFrame_accesses k.bflag _).trans vector, rfl⟩

/-! Each shape of instruction has such an effect. -/

section Shapes

variable {s : State} {m : String}

theorem Effect.accOp {f : Width → Flags → Word → Word → Word × Flags} {operand : State → Word × State}
    (h : Operand State.mw operand) (hp : FlagUpdate m s.p (f s.mw s.p s.acc (operand s).1).2) :
    Effect s m (accOp f operand s) := .acc _ (h.accesses s) hp

theorem Effect.accTest {f : Width → Flags → Word → Word → Flags} {operand : State → Word × State}
    (h : Operand State.mw operand) (hp : FlagUpdate m s.p (f s.mw s.p s.acc (operand s).1)) :
    Effect s m (accTest f operand s) := .flags (h.accesses s) hp

theorem Effect.indexTest {reg : State → Word} {operand : State → Word × State} (h : Operand State.xw operand)
    (hm : m ∈ ["CMP", "CPX", "CPY", "ASL", "LSR", "ROL", "ROR"]) : Effect s m (indexTest reg operand s) :=
  .flags (h.accesses s) (.nzc _ _ _ hm)

theorem Effect.store {w : State → Width} {reg : State → Word} {ea : State → EA × State} (h : Mode ea) :
    Effect s m (store w reg ea s) := .access ((h.onlyReads s).accesses.trans (memWrite_accesses _ _ _ _))

theorem Effect.modifyMem {f : Width → Flags → Word → Word × Flags} {ea : State → EA × State} (h : Mode ea)
    (hp : FlagUpdate m s.p (f s.mw s.p (memRead s.mw (ea s).1 (ea s).2).1).2) : Effect s m (modifyMem f ea s) :=
  .flags (((h.onlyReads s).trans (memRead_onlyReads _ _ _)).accesses.trans (memWriteRmw_accesses _ _ _ _)) hp

theorem Effect.modifyAcc {f : Width → Flags → Word → Word × Flags} (hp : FlagUpdate m s.p (f s.mw s.p s.acc).2) :
    Effect s m (modifyAcc f s) := .acc _ (Accesses.refl s) hp

theorem Effect.toAcc {u : State} {v : Word} (h : Accesses s u) (hp : FlagUpdate m s.p (setNZ u.mw v s.p)) :
    Effect s m (toAcc v u) := .acc v h (h.p_eq ▸ hp)

theorem Effect.toX {u : State} {v : Word} (h : Accesses s u) (hp : FlagUpdate m s.p (setNZ u.xw v s.p)) :
    Effect s m (toX v u) := .indexX v h (h.p_eq ▸ hp)

theorem Effect.toY {u : State} {v : Word} (h : Accesses s u) (hp : FlagUpdate m s.p (setNZ u.xw v s.p)) :
    Effect s m (toY v u) := .indexY v h (h.p_eq ▸ hp)

theorem Effect.jumpLong {t : Addr × State} (h : Accesses s t.2) (hm : m ∈ ["JML", "JSL", "RTL"]) :
    Effect s m (jumpLong t) := .programBank (bankOf t.1) (h.trans (withPC_accesses (offOf t.1) t.2)) hm

/-- RTI pulls P, PC and, in native mode, PB (R395). -/
theorem Effect.returnFromInterrupt (hm : m ∈ ["RTI"]) : Effect s m (returnFromInterrupt s) := by
  let b := pull8 false s
  let v := pull16 false b.2
  let k := pull8 false v.2
  have hv : Accesses s v.2 := (pull8_accesses false s).trans (pull16_accesses false b.2)
  have hk : Accesses s k.2 := hv.trans (pull8_accesses false v.2)
  by_cases he : s.e = true
  case pos =>
    rw [returnFromInterrupt_emulation he]
    exact .status b.1 (hv.trans (withPC_accesses v.1 _)) (List.mem_cons_of_mem _ hm)
  case neg =>
    rw [returnFromInterrupt_native he]
    exact .statusBank b.1 k.1 (hk.trans (withPC_accesses v.1 _)) hm

theorem Effect.exchangeCarry (hm : m ∈ ["XCE"]) : Effect s m (exchangeCarry s) := by
  cases hc : s.p.c with
  | false => rw [exchangeCarry_clear hc]; exact .native hm
  | true => rw [exchangeCarry_set hc]; exact .emulation hm

theorem Effect.blockStep (delta : Word) (t u : Byte) (hm : m ∈ ["MVN", "MVP"]) : Effect s m (blockStep delta t u s) := by
  let v := read8 (mkAddr u s.x) s
  have moved := (read8_onlyReads (mkAddr u s.x) s).accesses.trans (write8_accesses (mkAddr t s.y) v.1 v.2)
  exact .block t (s.x + delta) (s.y + delta) (s.c - 1)
    (moved.trans (withPC_accesses (if s.c - 1 == 0xFFFF then s.pc else s.pc - 3) _)) hm

/-- BRK and COP leave the latch of an NMI as it is (R505). -/
theorem Effect.takeInterrupt {k : Interrupt} (hk : k ≠ .nmi) (hm : m ∈ ["BRK", "COP"]) :
    Effect s m (takeInterrupt k s) := by
  have latch : s.withNmiPending (k.pendingAfter s.nmiPending) = s := by
    rw [Interrupt.pendingAfter_eq, if_neg hk]; rfl
  obtain ⟨u, hu, entry⟩ := takeInterrupt_accesses k s
  rw [entry]
  exact .entry (latch ▸ hu) hm

end Shapes

theorem mnemonic_of_encode {i : Instr} {op : Byte} {bs : List Byte} (h : encode i = op :: bs) :
    mnemonic i = mnemonicOf op := by
  rw [mnemonic, h]; rfl

/-- An arm of `exec` under its mnemonic. -/
theorem arm_effect {i : Instr} {s t : State} {op : Byte} {bs : List Byte} (m : String) (hencode : encode i = op :: bs)
    (hm : mnemonicOf op = m) (hexec : exec i s = .next t) (h : Effect s m t) :
    ∃ t, exec i s = .next t ∧ Effect s (mnemonic i) t :=
  ⟨t, hexec, (mnemonic_of_encode hencode).trans hm ▸ h⟩

/-- Every instruction completes, and does what its mnemonic allows. -/
theorem exec_effect (i : Instr) (s : State) : ∃ t, exec i s = .next t ∧ Effect s (mnemonic i) t := by
  cases i with
  | ldaImm => exact arm_effect "LDA" rfl rfl rfl (.accOp (.imm _) (.nz _ _ (by decide)))
  | ldaDpIndX | ldaSr | ldaDp | ldaDpIndL | ldaAbs | ldaAbsL | ldaDpIndY | ldaDpInd | ldaSrIndY | ldaDpX | ldaDpIndLY
  | ldaAbsY | ldaAbsX | ldaAbsLX =>
    exact arm_effect "LDA" rfl rfl rfl (.accOp (.mem (by with_reducible constructor)) (.nz _ _ (by decide)))
  | adcImm => exact arm_effect "ADC" rfl rfl rfl (.accOp (.imm _) (.nvzc _ _ _ _ (by decide)))
  | adcDpIndX | adcSr | adcDp | adcDpIndL | adcAbs | adcAbsL | adcDpIndY | adcDpInd | adcSrIndY | adcDpX | adcDpIndLY
  | adcAbsY | adcAbsX | adcAbsLX =>
    exact arm_effect "ADC" rfl rfl rfl (.accOp (.mem (by with_reducible constructor)) (.nvzc _ _ _ _ (by decide)))
  | sbcImm => exact arm_effect "SBC" rfl rfl rfl (.accOp (.imm _) (.nvzc _ _ _ _ (by decide)))
  | sbcDpIndX | sbcSr | sbcDp | sbcDpIndL | sbcAbs | sbcAbsL | sbcDpIndY | sbcDpInd | sbcSrIndY | sbcDpX | sbcDpIndLY
  | sbcAbsY | sbcAbsX | sbcAbsLX =>
    exact arm_effect "SBC" rfl rfl rfl (.accOp (.mem (by with_reducible constructor)) (.nvzc _ _ _ _ (by decide)))
  | andImm => exact arm_effect "AND" rfl rfl rfl (.accOp (.imm _) (.nz _ _ (by decide)))
  | andDpIndX | andSr | andDp | andDpIndL | andAbs | andAbsL | andDpIndY | andDpInd | andSrIndY | andDpX | andDpIndLY
  | andAbsY | andAbsX | andAbsLX =>
    exact arm_effect "AND" rfl rfl rfl (.accOp (.mem (by with_reducible constructor)) (.nz _ _ (by decide)))
  | oraImm => exact arm_effect "ORA" rfl rfl rfl (.accOp (.imm _) (.nz _ _ (by decide)))
  | oraDpIndX | oraSr | oraDp | oraDpIndL | oraAbs | oraAbsL | oraDpIndY | oraDpInd | oraSrIndY | oraDpX | oraDpIndLY
  | oraAbsY | oraAbsX | oraAbsLX =>
    exact arm_effect "ORA" rfl rfl rfl (.accOp (.mem (by with_reducible constructor)) (.nz _ _ (by decide)))
  | eorImm => exact arm_effect "EOR" rfl rfl rfl (.accOp (.imm _) (.nz _ _ (by decide)))
  | eorDpIndX | eorSr | eorDp | eorDpIndL | eorAbs | eorAbsL | eorDpIndY | eorDpInd | eorSrIndY | eorDpX | eorDpIndLY
  | eorAbsY | eorAbsX | eorAbsLX =>
    exact arm_effect "EOR" rfl rfl rfl (.accOp (.mem (by with_reducible constructor)) (.nz _ _ (by decide)))
  | cmpImm => exact arm_effect "CMP" rfl rfl rfl (.accTest (.imm _) (.nzc _ _ _ (by decide)))
  | cmpDpIndX | cmpSr | cmpDp | cmpDpIndL | cmpAbs | cmpAbsL | cmpDpIndY | cmpDpInd | cmpSrIndY | cmpDpX | cmpDpIndLY
  | cmpAbsY | cmpAbsX | cmpAbsLX =>
    exact arm_effect "CMP" rfl rfl rfl (.accTest (.mem (by with_reducible constructor)) (.nzc _ _ _ (by decide)))
  | bitImm => exact arm_effect "BIT" rfl rfl rfl (.accTest (.imm _) (.z _ (by decide)))
  | bitDp | bitAbs | bitDpX | bitAbsX =>
    exact arm_effect "BIT" rfl rfl rfl (.accTest (.mem (by with_reducible constructor)) (.nvz _ _ _ (by decide)))
  | cpxImm => exact arm_effect "CPX" rfl rfl rfl (.indexTest (.imm _) (by decide))
  | cpxDp | cpxAbs => exact arm_effect "CPX" rfl rfl rfl (.indexTest (.mem (by with_reducible constructor)) (by decide))
  | cpyImm => exact arm_effect "CPY" rfl rfl rfl (.indexTest (.imm _) (by decide))
  | cpyDp | cpyAbs => exact arm_effect "CPY" rfl rfl rfl (.indexTest (.mem (by with_reducible constructor)) (by decide))
  | ldxImm => exact arm_effect "LDX" rfl rfl rfl (.toX (Accesses.refl s) (.nz _ _ (by decide)))
  | ldxDp | ldxAbs | ldxDpY | ldxAbsY =>
    exact arm_effect "LDX" rfl rfl rfl (.toX (Operand.accesses (.mem (by with_reducible constructor)) s)
      (.nz _ _ (by decide)))
  | ldyImm => exact arm_effect "LDY" rfl rfl rfl (.toY (Accesses.refl s) (.nz _ _ (by decide)))
  | ldyDp | ldyAbs | ldyDpX | ldyAbsX =>
    exact arm_effect "LDY" rfl rfl rfl (.toY (Operand.accesses (.mem (by with_reducible constructor)) s)
      (.nz _ _ (by decide)))
  | staDpIndX | staSr | staDp | staDpIndL | staAbs | staAbsL | staDpIndY | staDpInd | staSrIndY | staDpX | staDpIndLY
  | staAbsY | staAbsX | staAbsLX => exact arm_effect "STA" rfl rfl rfl (.store (by with_reducible constructor))
  | stxDp | stxAbs | stxDpY => exact arm_effect "STX" rfl rfl rfl (.store (by with_reducible constructor))
  | styDp | styAbs | styDpX => exact arm_effect "STY" rfl rfl rfl (.store (by with_reducible constructor))
  | stzDp | stzDpX | stzAbs | stzAbsX => exact arm_effect "STZ" rfl rfl rfl (.store (by with_reducible constructor))
  | incAcc => exact arm_effect "INC" rfl rfl rfl (.modifyAcc (.nz _ _ (by decide)))
  | incDp | incAbs | incDpX | incAbsX =>
    exact arm_effect "INC" rfl rfl rfl (.modifyMem (by with_reducible constructor) (.nz _ _ (by decide)))
  | decAcc => exact arm_effect "DEC" rfl rfl rfl (.modifyAcc (.nz _ _ (by decide)))
  | decDp | decAbs | decDpX | decAbsX =>
    exact arm_effect "DEC" rfl rfl rfl (.modifyMem (by with_reducible constructor) (.nz _ _ (by decide)))
  | aslAcc => exact arm_effect "ASL" rfl rfl rfl (.modifyAcc (.nzc _ _ _ (by decide)))
  | aslDp | aslAbs | aslDpX | aslAbsX =>
    exact arm_effect "ASL" rfl rfl rfl (.modifyMem (by with_reducible constructor) (.nzc _ _ _ (by decide)))
  | lsrAcc => exact arm_effect "LSR" rfl rfl rfl (.modifyAcc (.nzc _ _ _ (by decide)))
  | lsrDp | lsrAbs | lsrDpX | lsrAbsX =>
    exact arm_effect "LSR" rfl rfl rfl (.modifyMem (by with_reducible constructor) (.nzc _ _ _ (by decide)))
  | rolAcc => exact arm_effect "ROL" rfl rfl rfl (.modifyAcc (.nzc _ _ _ (by decide)))
  | rolDp | rolAbs | rolDpX | rolAbsX =>
    exact arm_effect "ROL" rfl rfl rfl (.modifyMem (by with_reducible constructor) (.nzc _ _ _ (by decide)))
  | rorAcc => exact arm_effect "ROR" rfl rfl rfl (.modifyAcc (.nzc _ _ _ (by decide)))
  | rorDp | rorAbs | rorDpX | rorAbsX =>
    exact arm_effect "ROR" rfl rfl rfl (.modifyMem (by with_reducible constructor) (.nzc _ _ _ (by decide)))
  | tsbDp | tsbAbs => exact arm_effect "TSB" rfl rfl rfl (.modifyMem (by with_reducible constructor) (.z _ (by decide)))
  | trbDp | trbAbs => exact arm_effect "TRB" rfl rfl rfl (.modifyMem (by with_reducible constructor) (.z _ (by decide)))
  | inx => exact arm_effect "INX" rfl rfl rfl (.toX (Accesses.refl s) (.nz _ _ (by decide)))
  | dex => exact arm_effect "DEX" rfl rfl rfl (.toX (Accesses.refl s) (.nz _ _ (by decide)))
  | tax => exact arm_effect "TAX" rfl rfl rfl (.toX (Accesses.refl s) (.nz _ _ (by decide)))
  | tyx => exact arm_effect "TYX" rfl rfl rfl (.toX (Accesses.refl s) (.nz _ _ (by decide)))
  | tsx => exact arm_effect "TSX" rfl rfl rfl (.toX (Accesses.refl s) (.nz _ _ (by decide)))
  | iny => exact arm_effect "INY" rfl rfl rfl (.toY (Accesses.refl s) (.nz _ _ (by decide)))
  | dey => exact arm_effect "DEY" rfl rfl rfl (.toY (Accesses.refl s) (.nz _ _ (by decide)))
  | tay => exact arm_effect "TAY" rfl rfl rfl (.toY (Accesses.refl s) (.nz _ _ (by decide)))
  | txy => exact arm_effect "TXY" rfl rfl rfl (.toY (Accesses.refl s) (.nz _ _ (by decide)))
  | txa => exact arm_effect "TXA" rfl rfl rfl (.toAcc (Accesses.refl s) (.nz _ _ (by decide)))
  | tya => exact arm_effect "TYA" rfl rfl rfl (.toAcc (Accesses.refl s) (.nz _ _ (by decide)))
  | tdc => exact arm_effect "TDC" rfl rfl rfl (.wideAcc _ (.nz _ _ (by decide)))
  | tsc => exact arm_effect "TSC" rfl rfl rfl (.wideAcc _ (.nz _ _ (by decide)))
  | xba => exact arm_effect "XBA" rfl rfl rfl (.wideAcc _ (.nz _ _ (by decide)))
  | tcd => exact arm_effect "TCD" rfl rfl rfl (.directPage _ (Accesses.refl s) (.nz _ _ (by decide)) (by decide))
  | txs => exact arm_effect "TXS" rfl rfl rfl (.access (withSP_accesses _ s))
  | tcs => exact arm_effect "TCS" rfl rfl rfl (.access (withSP_accesses _ s))
  | pha => exact arm_effect "PHA" rfl rfl rfl (.access (pushW_accesses _ _ _ s))
  | phx => exact arm_effect "PHX" rfl rfl rfl (.access (pushW_accesses _ _ _ s))
  | phy => exact arm_effect "PHY" rfl rfl rfl (.access (pushW_accesses _ _ _ s))
  | php => exact arm_effect "PHP" rfl rfl rfl (.access (push8_accesses _ _ s))
  | phb => exact arm_effect "PHB" rfl rfl rfl (.access (push8_accesses _ _ s))
  | phk => exact arm_effect "PHK" rfl rfl rfl (.access (push8_accesses _ _ s))
  | phd => exact arm_effect "PHD" rfl rfl rfl (.access (push16_accesses _ _ s))
  | pea => exact arm_effect "PEA" rfl rfl rfl (.access (push16_accesses _ _ s))
  | per => exact arm_effect "PER" rfl rfl rfl (.access (push16_accesses _ _ s))
  | pei => exact arm_effect "PEI" rfl rfl rfl (.access ((read16_onlyReads _ _ s).accesses.trans (push16_accesses _ _ _)))
  | plx => exact arm_effect "PLX" rfl rfl rfl (.toX (pullW_accesses _ _ s) (.nz _ _ (by decide)))
  | ply => exact arm_effect "PLY" rfl rfl rfl (.toY (pullW_accesses _ _ s) (.nz _ _ (by decide)))
  | pla => exact arm_effect "PLA" rfl rfl rfl (.toAcc (pullW_accesses _ _ s) (.nz _ _ (by decide)))
  | plb => exact arm_effect "PLB" rfl rfl rfl (.dataBank _ (pull8_accesses _ s) (.nz _ _ (by decide)) (by decide))
  | pld => exact arm_effect "PLD" rfl rfl rfl (.directPage _ (pull16_accesses _ s) (.nz _ _ (by decide)) (by decide))
  | plp => exact arm_effect "PLP" rfl rfl rfl (.status _ (pull8_accesses _ s) (by decide))
  | bcc => exact arm_effect "BCC" rfl rfl rfl (.access (withPC_accesses _ s))
  | bcs => exact arm_effect "BCS" rfl rfl rfl (.access (withPC_accesses _ s))
  | beq => exact arm_effect "BEQ" rfl rfl rfl (.access (withPC_accesses _ s))
  | bne => exact arm_effect "BNE" rfl rfl rfl (.access (withPC_accesses _ s))
  | bmi => exact arm_effect "BMI" rfl rfl rfl (.access (withPC_accesses _ s))
  | bpl => exact arm_effect "BPL" rfl rfl rfl (.access (withPC_accesses _ s))
  | bvc => exact arm_effect "BVC" rfl rfl rfl (.access (withPC_accesses _ s))
  | bvs => exact arm_effect "BVS" rfl rfl rfl (.access (withPC_accesses _ s))
  | bra => exact arm_effect "BRA" rfl rfl rfl (.access (withPC_accesses _ s))
  | brl => exact arm_effect "BRL" rfl rfl rfl (.access (withPC_accesses _ s))
  | jmpAbs => exact arm_effect "JMP" rfl rfl rfl (.access (withPC_accesses _ s))
  | jmpInd | jmpIndX =>
    exact arm_effect "JMP" rfl rfl rfl (.access ((read16_onlyReads _ _ s).accesses.trans (withPC_accesses _ _)))
  | jmlAbsL => exact arm_effect "JML" rfl rfl rfl (.jumpLong (Accesses.refl s) (by decide))
  | jmlIndL => exact arm_effect "JML" rfl rfl rfl (.jumpLong (read24_onlyReads _ _ s).accesses (by decide))
  | jsrAbs => exact arm_effect "JSR" rfl rfl rfl (.access ((push16_accesses _ _ s).trans (withPC_accesses _ _)))
  | jsrIndX =>
    exact arm_effect "JSR" rfl rfl rfl (.access (((push16_accesses _ _ s).trans (read16_onlyReads _ _ _).accesses).trans
      (withPC_accesses _ _)))
  | jsl =>
    exact arm_effect "JSL" rfl rfl rfl (.jumpLong ((push8_accesses _ _ s).trans (push16_accesses _ _ _)) (by decide))
  | rts => exact arm_effect "RTS" rfl rfl rfl (.access ((pull16_accesses _ s).trans (withPC_accesses _ _)))
  | rtl =>
    exact arm_effect "RTL" rfl rfl rfl (.programBank _ (((pull16_accesses _ s).trans (pull8_accesses _ _)).trans
      (withPC_accesses _ _)) (by decide))
  | brk => exact arm_effect "BRK" rfl rfl rfl (.takeInterrupt (by decide) (by decide))
  | cop => exact arm_effect "COP" rfl rfl rfl (.takeInterrupt (by decide) (by decide))
  | nop => exact arm_effect "NOP" rfl rfl rfl (.access (Accesses.refl s))
  | wdm => exact arm_effect "WDM" rfl rfl rfl (.access (Accesses.refl s))
  | rti => exact arm_effect "RTI" rfl rfl rfl (.returnFromInterrupt (by decide))
  | wai => exact arm_effect "WAI" rfl rfl rfl (.run .waiting)
  | stp => exact arm_effect "STP" rfl rfl rfl (.run .stopped)
  | mvn => exact arm_effect "MVN" rfl rfl rfl (.blockStep _ _ _ (by decide))
  | mvp => exact arm_effect "MVP" rfl rfl rfl (.blockStep _ _ _ (by decide))
  | clc => exact arm_effect "CLC" rfl rfl rfl (.flags (Accesses.refl s) (.c _ (by decide)))
  | sec => exact arm_effect "SEC" rfl rfl rfl (.flags (Accesses.refl s) (.c _ (by decide)))
  | cli => exact arm_effect "CLI" rfl rfl rfl (.flags (Accesses.refl s) (.i _ (by decide)))
  | sei => exact arm_effect "SEI" rfl rfl rfl (.flags (Accesses.refl s) (.i _ (by decide)))
  | cld => exact arm_effect "CLD" rfl rfl rfl (.flags (Accesses.refl s) (.d _ (by decide)))
  | sed => exact arm_effect "SED" rfl rfl rfl (.flags (Accesses.refl s) (.d _ (by decide)))
  | clv => exact arm_effect "CLV" rfl rfl rfl (.flags (Accesses.refl s) (.v _ (by decide)))
  | rep => exact arm_effect "REP" rfl rfl rfl (.rep _ (by decide))
  | sep => exact arm_effect "SEP" rfl rfl rfl (.sep _ (by decide))
  | xce => exact arm_effect "XCE" rfl rfl rfl (.exchangeCarry (by decide))

/-! Fields that no instruction writes, and those that few write (R36, R37, R38, R42, R505). -/

/-- The parameters, what backs the bus, and the inputs. -/
def State.inputs (s : State) : Params × List Region × Bool × Bool × Bool :=
  (s.params, s.bus.regions, s.irqLine, s.resetPending, s.nmiPending)

theorem Accesses.inputs_eq {s t : State} (h : Accesses s t) : t.inputs = s.inputs := by
  rw [State.inputs, h.regions, h.state]
  rfl

theorem Accesses.modeRegisters {s t : State} (h : Accesses s t) : t.e = s.e ∧ t.d = s.d ∧ t.db = s.db ∧ t.pb = s.pb := by
  rw [h.state]
  exact ⟨rfl, rfl, rfl, rfl⟩

theorem Effect.inputs_eq {s t : State} {m : String} (h : Effect s m t) : t.inputs = s.inputs := by
  cases h with
  | access h | flags h _ | acc _ h _ | indexX _ h _ | indexY _ h _ | directPage _ h _ _ | dataBank _ h _ _
  | programBank _ h _ | status _ h _ | statusBank _ _ h _ | block _ _ _ _ h _ | entry h _ => exact h.inputs_eq
  | wideAcc | run | rep | sep | native | emulation => rfl

/-- Each of E, D, DB and PB is as before, or the mnemonic is one that writes it. -/
theorem Effect.modeRegisters {s t : State} {m : String} (h : Effect s m t) :
    (t.e = s.e ∨ m ∈ ["XCE"]) ∧ (t.d = s.d ∨ m ∈ ["TCD", "PLD"]) ∧ (t.db = s.db ∨ m ∈ ["PLB", "MVN", "MVP"]) ∧
      (t.pb = s.pb ∨ m ∈ ["JML", "JSL", "RTL", "RTI", "BRK", "COP"]) := by
  cases h with
  | access h | flags h _ | acc _ h _ | indexX _ h _ | indexY _ h _ | status _ h _ =>
    obtain ⟨he, hd, hdb, hpb⟩ := h.modeRegisters
    exact ⟨.inl he, .inl hd, .inl hdb, .inl hpb⟩
  | wideAcc | run | rep | sep => exact ⟨.inl rfl, .inl rfl, .inl rfl, .inl rfl⟩
  | native hm | emulation hm => exact ⟨.inr hm, .inl rfl, .inl rfl, .inl rfl⟩
  | directPage _ h _ hm =>
    obtain ⟨he, -, hdb, hpb⟩ := h.modeRegisters
    exact ⟨.inl he, .inr hm, .inl hdb, .inl hpb⟩
  | dataBank _ h _ hm =>
    obtain ⟨he, hd, -, hpb⟩ := h.modeRegisters
    exact ⟨.inl he, .inl hd, .inr (mem_of_among hm), .inl hpb⟩
  | block _ _ _ _ h hm =>
    obtain ⟨he, hd, -, hpb⟩ := h.modeRegisters
    exact ⟨.inl he, .inl hd, .inr (List.mem_cons_of_mem _ hm), .inl hpb⟩
  | programBank _ h hm | statusBank _ _ h hm | entry h hm =>
    obtain ⟨he, hd, hdb, -⟩ := h.modeRegisters
    exact ⟨.inl he, .inl hd, .inl hdb, .inr (mem_of_among hm)⟩

/-! The flags (R53). -/

/-- What an instruction with mnemonic `m` does to all flags: the update of `FlagUpdate`, nothing, all of P, the widths and c
of XCE, or i and d of an entry. -/
inductive FlagChange (m : String) (p : Flags) : Flags → Prop
  | none : FlagChange m p p
  | update {q : Flags} (h : FlagUpdate m p q) : FlagChange m p q
  | all (q : Flags) (hm : m ∈ ["PLP", "RTI", "REP", "SEP"]) : FlagChange m p q
  | widths (c mw xw : Bool) (hm : m ∈ ["XCE"]) : FlagChange m p { p with c := c, m := mw, x := xw }
  | entry (hm : m ∈ ["BRK", "COP"]) : FlagChange m p { p with i := true, d := false }

theorem Effect.flagChange {s t : State} {m : String} (h : Effect s m t) : FlagChange m s.p t.p := by
  cases h with
  | access h | programBank _ h _ | block _ _ _ _ h _ => exact h.p_eq ▸ .none
  | flags _ hp | acc _ _ hp | wideAcc _ hp | indexX _ _ hp | indexY _ _ hp | directPage _ _ hp _ | dataBank _ _ hp _ =>
    exact .update hp
  | run => exact .none
  | rep _ hm | sep _ hm | status _ _ hm | statusBank _ _ _ hm => exact .all _ (mem_of_among hm)
  | native hm => exact .widths s.e s.p.m s.p.x hm
  | emulation hm => exact .widths s.e true true hm
  | entry h hm => exact h.p_eq ▸ .entry hm

/-- The flag table (R53). -/
theorem FlagChange.writers {m : String} {p q : Flags} (h : FlagChange m p q) :
    (q.n ≠ p.n → m ∈ ["ADC", "SBC", "AND", "ORA", "EOR", "CMP", "CPX", "CPY", "INC", "DEC", "INX", "INY",
      "DEX", "DEY", "ASL", "LSR", "ROL", "ROR", "LDA", "LDX", "LDY", "PLA", "PLX", "PLY", "PLB", "PLD", "TAX", "TAY",
      "TXA", "TYA", "TXY", "TYX", "TSX", "TCD", "TDC", "TSC", "XBA", "PLP", "RTI", "REP", "SEP", "BIT"]) ∧
    (q.z ≠ p.z → m ∈ ["ADC", "SBC", "AND", "ORA", "EOR", "CMP", "CPX", "CPY", "INC", "DEC", "INX", "INY",
      "DEX", "DEY", "ASL", "LSR", "ROL", "ROR", "LDA", "LDX", "LDY", "PLA", "PLX", "PLY", "PLB", "PLD", "TAX", "TAY",
      "TXA", "TYA", "TXY", "TYX", "TSX", "TCD", "TDC", "TSC", "XBA", "PLP", "RTI", "REP", "SEP", "BIT", "TSB", "TRB"]) ∧
    (q.v ≠ p.v → m ∈ ["ADC", "SBC", "BIT", "CLV", "PLP", "RTI", "REP", "SEP"]) ∧
    (q.m ≠ p.m → m ∈ ["REP", "SEP", "PLP", "RTI", "XCE"]) ∧
    (q.x ≠ p.x → m ∈ ["REP", "SEP", "PLP", "RTI", "XCE"]) ∧
    (q.d ≠ p.d → m ∈ ["CLD", "SED", "PLP", "RTI", "REP", "SEP", "BRK", "COP"]) ∧
    (q.i ≠ p.i → m ∈ ["CLI", "SEI", "PLP", "RTI", "REP", "SEP", "BRK", "COP"]) ∧
    (q.c ≠ p.c → m ∈ ["ADC", "SBC", "CMP", "CPX", "CPY", "ASL", "LSR", "ROL", "ROR", "CLC", "SEC", "XCE",
      "PLP", "RTI", "REP", "SEP"]) := by
  have same {P : Prop} {f : Bool} : f ≠ f → P := absurd rfl
  cases h with
  | none => exact ⟨same, same, same, same, same, same, same, same⟩
  | update h =>
    cases h with
    | nz _ _ hm =>
      exact ⟨fun _ => mem_of_among hm, fun _ => mem_of_among hm, same, same, same, same, same, same⟩
    | nzc _ _ _ hm =>
      exact ⟨fun _ => mem_of_among hm, fun _ => mem_of_among hm, same, same, same, same, same, fun _ => mem_of_among hm⟩
    | nvzc _ _ _ _ hm =>
      exact ⟨fun _ => mem_of_among hm, fun _ => mem_of_among hm, fun _ => mem_of_among hm, same, same, same, same,
        fun _ => mem_of_among hm⟩
    | nvz _ _ _ hm =>
      exact ⟨fun _ => mem_of_among hm, fun _ => mem_of_among hm, fun _ => mem_of_among hm, same, same, same, same, same⟩
    | z _ hm => exact ⟨same, fun _ => mem_of_among hm, same, same, same, same, same, same⟩
    | c _ hm => exact ⟨same, same, same, same, same, same, same, fun _ => mem_of_among hm⟩
    | i _ hm => exact ⟨same, same, same, same, same, same, fun _ => mem_of_among hm, same⟩
    | d _ hm => exact ⟨same, same, same, same, same, fun _ => mem_of_among hm, same, same⟩
    | v _ hm => exact ⟨same, same, fun _ => mem_of_among hm, same, same, same, same, same⟩
  | all _ hm =>
    exact ⟨fun _ => mem_of_among hm, fun _ => mem_of_among hm, fun _ => mem_of_among hm, fun _ => mem_of_among hm,
      fun _ => mem_of_among hm, fun _ => mem_of_among hm, fun _ => mem_of_among hm, fun _ => mem_of_among hm⟩
  | widths _ _ _ hm =>
    exact ⟨same, same, same, fun _ => mem_of_among hm, fun _ => mem_of_among hm, same, same, fun _ => mem_of_among hm⟩
  | entry hm => exact ⟨same, same, same, same, same, fun _ => mem_of_among hm, fun _ => mem_of_among hm, same⟩

/-- What an instruction did, from its next state. -/
theorem effect_of_exec {i : Instr} {s t : State} (h : exec i s = .next t) : Effect s (mnemonic i) t := by
  obtain ⟨t', ht', effect⟩ := exec_effect i s
  cases h.symm.trans ht'
  exact effect

end Sys2Proof.Machine

namespace Sys2Proof.Claim
open Sys2Proof.Machine

/-- Settles O49: by the effect of each instruction; the inputs are kept by all of them. -/
theorem modeAndBankRegisterWriters : Obligations.ModeAndBankRegisterWriters := by
  intro i s t h
  have effect := effect_of_exec h
  obtain ⟨he, hd, hdb, hpb⟩ := effect.modeRegisters
  obtain ⟨params, regions, irqLine, resetPending, nmiPending⟩ :
      t.params = s.params ∧ t.bus.regions = s.bus.regions ∧ t.irqLine = s.irqLine ∧ t.resetPending = s.resetPending ∧
        t.nmiPending = s.nmiPending := by
    simpa only [State.inputs, Prod.mk.injEq] using effect.inputs_eq
  exact ⟨fun ne => List.mem_singleton.1 (he.resolve_left ne), hd.resolve_left, hdb.resolve_left, hpb.resolve_left,
    params, regions, irqLine, resetPending, nmiPending⟩

/-- Settles O50: by the flag change of each instruction; BIT # writes z alone. -/
theorem flagWriterTable : Obligations.FlagWriterTable := by
  intro i s t h
  obtain ⟨n, z, v, m, x, d, i', c⟩ := (effect_of_exec h).flagChange.writers
  refine ⟨n, z, v, m, x, d, i', c, ?bitImm⟩
  case bitImm =>
    rintro w rfl
    cases h
    exact ⟨rfl, rfl⟩

end Sys2Proof.Claim
end

section
/-! SUPPORT and PROOFS. The invariant of a Step boundary: kept by accesses, by every instruction, by entries and by resets,
and so by every Step and every run; then O52, O57, O58, O59 and O60. -/

namespace Sys2Proof.Machine

/-! The invariant but for S: within an instruction S[15:8] may leave page 1, and the end of the Step forces it back (R90). -/

/-- `Inv` without its clause about S. -/
structure WidthInv (s : State) : Prop where
  memory     : s.bus.mem.wf = true
  narrowX    : s.p.x = true → hi s.x = 0x00
  narrowY    : s.p.x = true → hi s.y = 0x00
  emulationM : s.e = true → s.p.m = true
  emulationX : s.e = true → s.p.x = true
  params     : s.params.wf = true

theorem Inv.widthInv {s : State} (h : Inv s) : WidthInv s :=
  ⟨h.memory, h.narrowX, h.narrowY, h.emulationM, h.emulationX, h.params⟩

theorem WidthInv.inv {s : State} (h : WidthInv s) (hs : s.e = true → hi s.sp = 0x01) : Inv s :=
  ⟨h.memory, h.narrowX, h.narrowY, h.emulationM, h.emulationX, hs, h.params⟩

section Updates

variable {s : State} (h : WidthInv s)
include h

theorem WidthInv.accesses {t : State} (ht : Accesses s t) : WidthInv t := by
  have memory := ht.wf h.memory
  rw [ht.state]
  exact ⟨memory, h.narrowX, h.narrowY, h.emulationM, h.emulationX, h.params⟩

theorem WidthInv.withP {p : Flags} (hm : p.m = s.p.m) (hx : p.x = s.p.x) : WidthInv (s.withP p) :=
  ⟨h.memory, fun e => h.narrowX (hx ▸ e), fun e => h.narrowY (hx ▸ e), fun e => hm.trans (h.emulationM e),
    fun e => hx.trans (h.emulationX e), h.params⟩

theorem WidthInv.setX (v : Word) : WidthInv (s.setX v) := by
  refine ⟨h.memory, fun hx => ?_, h.narrowY, h.emulationM, h.emulationX, h.params⟩
  have narrow : s.xw = .w8 := congrArg widthOf hx
  simp only [State.setX, narrow, State.withX_x, hi_trunc8]

theorem WidthInv.setY (v : Word) : WidthInv (s.setY v) := by
  refine ⟨h.memory, h.narrowX, fun hx => ?_, h.emulationM, h.emulationX, h.params⟩
  have narrow : s.xw = .w8 := congrArg widthOf hx
  simp only [State.setY, narrow, State.withY_y, hi_trunc8]

/-- A change of E and of all flags: the new x narrows the index registers (R41, R54, R380). -/
theorem WidthInv.setFlags {e : Bool} {p : Flags} (hm : e = true → p.m = true) (hx : e = true → p.x = true) :
    WidthInv ((s.withE e).setFlags p) := by
  have narrow (v : Word) (hpx : p.x = true) : hi (narrowIndex p.x v) = 0x00 := by
    rw [narrowIndex, if_pos hpx, hi_zext16]
  exact ⟨h.memory, narrow s.x, narrow s.y, hm, hx, h.params⟩

/-! Registers the invariant does not mention. -/

theorem WidthInv.setAcc (v : Word) : WidthInv (s.setAcc v) :=
  ⟨h.memory, h.narrowX, h.narrowY, h.emulationM, h.emulationX, h.params⟩

theorem WidthInv.withC (v : Word) : WidthInv (s.withC v) :=
  ⟨h.memory, h.narrowX, h.narrowY, h.emulationM, h.emulationX, h.params⟩

theorem WidthInv.withSP (v : Word) : WidthInv (s.withSP v) :=
  ⟨h.memory, h.narrowX, h.narrowY, h.emulationM, h.emulationX, h.params⟩

theorem WidthInv.withD (v : Word) : WidthInv (s.withD v) :=
  ⟨h.memory, h.narrowX, h.narrowY, h.emulationM, h.emulationX, h.params⟩

theorem WidthInv.withDB (v : Byte) : WidthInv (s.withDB v) :=
  ⟨h.memory, h.narrowX, h.narrowY, h.emulationM, h.emulationX, h.params⟩

theorem WidthInv.withPB (v : Byte) : WidthInv (s.withPB v) :=
  ⟨h.memory, h.narrowX, h.narrowY, h.emulationM, h.emulationX, h.params⟩

theorem WidthInv.withRun (v : RunState) : WidthInv (s.withRun v) :=
  ⟨h.memory, h.narrowX, h.narrowY, h.emulationM, h.emulationX, h.params⟩

end Updates

theorem FlagUpdate.widths {m : String} {p q : Flags} (h : FlagUpdate m p q) : q.m = p.m ∧ q.x = p.x := by
  cases h <;> exact ⟨rfl, rfl⟩

/-- An update of the flags after other registers, which leave the width flags `q` as they were. -/
theorem WidthInv.flags {u : State} {m : String} {q p : Flags} (h : WidthInv u) (hu : u.p = q) (hp : FlagUpdate m q p) :
    WidthInv (u.withP p) := by
  subst hu
  obtain ⟨hm, hx⟩ := hp.widths
  exact h.withP hm hx

/-- REP clears the width flags in native mode only, and no index register has to be narrowed (R377). -/
theorem WidthInv.rep {s : State} (h : WidthInv s) (b : Byte) : WidthInv (s.withP (repFlags s.e b s.p)) := by
  have wasSet {f c : Bool} (hf : (f && c) = true) : f = true := (Bool.and_eq_true_iff.1 hf).1
  have keeps {f c : Bool} (hf : f = true) (e : s.e = true) : (f && (s.e || c)) = true := by rw [hf, e]; rfl
  exact ⟨h.memory, fun hx => h.narrowX (wasSet hx), fun hx => h.narrowY (wasSet hx),
    fun e => keeps (h.emulationM e) e, fun e => keeps (h.emulationX e) e, h.params⟩

/-- SEP never clears a width flag (R378). -/
theorem WidthInv.sep {s : State} (h : WidthInv s) (b : Byte) : WidthInv (s.setFlags (sepFlags s.e b s.p)) :=
  h.setFlags (e := s.e) (fun e => Bool.or_eq_true_iff.2 (.inl (h.emulationM e)))
    (fun e => Bool.or_eq_true_iff.2 (.inl (h.emulationX e)))

/-- `SetP` sets m and x in emulation mode (R41). -/
theorem WidthInv.setP {s : State} (h : WidthInv s) (b : Byte) : WidthInv (s.setP b) :=
  h.setFlags (e := s.e) (fun e => Bool.or_eq_true_iff.2 (.inl e)) (fun e => Bool.or_eq_true_iff.2 (.inl e))

/-- Leaving emulation mode, or staying out of it, asks nothing of the widths (R380). -/
theorem WidthInv.native {s : State} (h : WidthInv s) (c : Bool) : WidthInv ((s.withE false).withP { s.p with c := c }) :=
  ⟨h.memory, h.narrowX, h.narrowY, nofun, nofun, h.params⟩

theorem WidthInv.enterHandler {s : State} (h : WidthInv s) : WidthInv s.enterHandler :=
  ⟨h.memory, h.narrowX, h.narrowY, h.emulationM, h.emulationX, h.params⟩

theorem WidthInv.effect {s t : State} {m : String} (h : WidthInv s) (ht : Effect s m t) : WidthInv t := by
  cases ht with
  | access ha => exact h.accesses ha
  | flags ha hp => exact (h.accesses ha).flags ha.p_eq hp
  | acc v ha hp => exact ((h.accesses ha).setAcc v).flags ha.p_eq hp
  | wideAcc v hp => exact (h.withC v).flags rfl hp
  | indexX v ha hp => exact ((h.accesses ha).setX v).flags ha.p_eq hp
  | indexY v ha hp => exact ((h.accesses ha).setY v).flags ha.p_eq hp
  | directPage v ha hp => exact ((h.accesses ha).withD v).flags ha.p_eq hp
  | dataBank v ha hp => exact ((h.accesses ha).withDB v).flags ha.p_eq hp
  | programBank v ha => exact (h.accesses ha).withPB v
  | run r => exact h.withRun r
  | rep b => exact h.rep b
  | sep b => exact h.sep b
  | status b ha => exact (h.accesses ha).setP b
  | statusBank b k ha => exact ((h.accesses ha).setP b).withPB k
  | native => exact h.native s.e
  | emulation =>
    exact (h.setFlags (e := true) (p := { s.p with c := s.e, m := true, x := true }) (fun _ => rfl) (fun _ => rfl)).withSP _
  | block t x y c ha => exact ((((h.accesses ha).withDB t).setX x).setY y).withC c
  | entry ha => exact (h.accesses ha).enterHandler

/-! The parts of a Step (R630). -/

theorem fetch8_accesses (s : State) : Accesses s (fetch8 s).2 :=
  (read8_onlyReads _ s).accesses.trans (withPC_accesses _ _)

theorem fetchBytes_accesses (n : Nat) (s : State) : Accesses s (fetchBytes n s).2 := by
  induction n generalizing s with
  | zero => exact Accesses.refl s
  | succ n ih => exact (fetch8_accesses s).trans (ih _)

theorem fetchInstr_accesses (s : State) : Accesses s (fetchInstr s).state :=
  (fetch8_accesses s).trans (fetchBytes_accesses _ _)

/-- The end of an instruction forces S[15:8], so that the whole invariant holds. -/
theorem WidthInv.finishInstr {s : State} (h : WidthInv s) (op : Byte) (iBefore : Bool) (cost : Nat) :
    Inv (finishInstr op iBefore cost s) := by
  have hs : s.e = true → hi (if s.e then pair 0x01 (lo s.sp) else s.sp) = 0x01 := fun e => by rw [if_pos e, hi_pair]
  exact WidthInv.inv ⟨h.memory, h.narrowX, h.narrowY, h.emulationM, h.emulationX, h.params⟩ hs

/-- The instruction branch of a Step completes, and from a state that meets the invariant gives one that does. -/
theorem executeOne_next (s : State) : ∃ t, executeOne s = .next t ∧ (Inv s → Inv t) := by
  obtain ⟨t, ht, effect⟩ := exec_effect (fetchInstr s).instr (fetchInstr s).state
  refine ⟨_, by rw [executeOne, ht], fun h => ?_⟩
  exact ((h.widthInv.accesses (fetchInstr_accesses s)).effect effect).finishInstr _ _ _

/-- A push that is not linear stays in page 1 in emulation mode. -/
theorem hi_below_emulation (v : Word) : hi (Claim.below true false v) = hi v := by
  rw [← Claim.stackDown_eq_below, stackDown_page]

/-- An entry pushes within page 1 in emulation mode (R88, R520). -/
theorem Inv.takeInterrupt {s : State} (h : Inv s) (k : Interrupt) : Inv (takeInterrupt k s) := by
  have latched : WidthInv (s.withNmiPending (k.pendingAfter s.nmiPending)) :=
    ⟨h.memory, h.narrowX, h.narrowY, h.emulationM, h.emulationX, h.params⟩
  obtain ⟨u, hu, entry⟩ := takeInterrupt_accesses k s
  have widths : WidthInv (Machine.takeInterrupt k s) := entry ▸ (latched.accesses hu).enterHandler
  refine widths.inv fun e => ?_
  rw [Claim.takeInterrupt_eq] at e ⊢
  simp only [show s.e = true from e, if_true, hi_below_emulation]
  exact h.emulationS e

/-! A reset forces the fields the invariant speaks of (R600). -/

theorem Inv.resetSequence {s : State} (h : Inv s) (k : ResetKind) : Inv (resetSequence k s) := by
  obtain ⟨hm, hx, -, -⟩ := resetFlags_forced k s.p
  obtain ⟨hX, hY⟩ := resetSequence_hi_index k s
  have memory : (Machine.resetSequence k s).bus.mem.wf = true := by rw [resetSequence_mem]; exact h.memory
  exact ⟨memory, fun _ => hX, fun _ => hY, fun _ => hm, fun _ => hx, fun _ => resetSequence_hi_sp k s, h.params⟩

/-! Updates that touch no field the invariant speaks of. -/

theorem Inv.withCost {s : State} (h : Inv s) (n : Nat) : Inv (s.withCost n) :=
  ⟨h.memory, h.narrowX, h.narrowY, h.emulationM, h.emulationX, h.emulationS, h.params⟩

theorem Inv.withRun {s : State} (h : Inv s) (r : RunState) : Inv (s.withRun r) :=
  ⟨h.memory, h.narrowX, h.narrowY, h.emulationM, h.emulationX, h.emulationS, h.params⟩

theorem Inv.beginStep {s : State} (h : Inv s) : Inv s.beginStep :=
  ⟨h.memory, h.narrowX, h.narrowY, h.emulationM, h.emulationX, h.emulationS, h.params⟩

/-! Every branch of a Step completes and keeps the invariant (R630). -/

theorem pollThenExecute_next (s : State) : ∃ t, pollThenExecute s = .next t ∧ (Inv s → Inv t) := by
  unfold pollThenExecute
  split
  · exact ⟨_, rfl, fun h => (h.takeInterrupt .nmi).withCost _⟩
  · split
    · exact ⟨_, rfl, fun h => (h.takeInterrupt .irq).withCost _⟩
    · exact executeOne_next s

theorem wakeStep_next (s : State) : ∃ t, wakeStep s = .next t ∧ (Inv s → Inv t) := by
  unfold wakeStep
  split
  · obtain ⟨t, ht, inv⟩ := executeOne_next (s.withRun .running)
    exact ⟨t, ht, fun h => inv (h.withRun .running)⟩
  · obtain ⟨t, ht, inv⟩ := pollThenExecute_next (s.withRun .running)
    exact ⟨t, ht, fun h => inv (h.withRun .running)⟩

theorem stepBody_next (s : State) : ∃ t, stepBody s = .next t ∧ (Inv s → Inv t) := by
  unfold stepBody
  split
  · exact ⟨_, rfl, fun h => (h.resetSequence s.resetKind).withCost resetCost⟩
  · split
    · exact ⟨_, rfl, fun h => h.withCost s.params.waitStepCycles⟩
    · split
      · exact ⟨_, rfl, fun h => h.withCost s.params.waitStepCycles⟩
      · exact wakeStep_next s
    · exact pollThenExecute_next s

theorem step_next (s : State) : ∃ t, step s = .next t ∧ (Inv s → Inv t) := by
  obtain ⟨t, ht, inv⟩ := stepBody_next s.beginStep
  exact ⟨t, ht, fun h => inv h.beginStep⟩

end Sys2Proof.Machine

namespace Sys2Proof.Claim
open Sys2Proof.Machine

/-- Settles O52: every branch of a Step completes. -/
theorem everyStepCompletes : Obligations.EveryStepCompletes := by
  intro s
  obtain ⟨t, ht, -⟩ := step_next s
  exact ⟨t, ht⟩

/-- Settles O57: every branch of a Step keeps the invariant, an instruction by its effect and the forced S. -/
theorem everyStepKeepsTheInvariant : Obligations.EveryStepKeepsTheInvariant := by
  intro s t h ht
  obtain ⟨t', ht', inv⟩ := step_next s
  cases ht.symm.trans ht'
  exact inv h

/-- Settles O59: by induction on the run. -/
theorem runsFromTheInvariantAreSafe : Obligations.RunsFromTheInvariantAreSafe := by
  intro s h t ht
  have inv : Inv t := by
    induction ht with
    | start => exact h
    | step _ hstep ih => exact everyStepKeepsTheInvariant _ _ ih hstep
  exact ⟨inv, everyStepCompletes t⟩

/-- Settles O58: the reset state is plain data; the Step from power-on is the reset sequence, which reads the vector from
empty memory. -/
theorem resetMeetsTheInvariant : Obligations.ResetMeetsTheInvariant := by
  refine ⟨?_, rfl⟩
  constructor <;> decide

end Sys2Proof.Claim
end

section
/-! SUPPORT and PROOFS. Memory, the bus and the operands (20_memory.md, 40_addressing_modes.md section 2): what a read of
each kind answers, what a write logs, pointers as numbers, then O6 to O9, O12 and O13. -/

namespace Sys2Proof.Machine

/-! The bus port at each kind of address (R82). -/

@[simp] theorem Bus.write8_log (b : Bus) (a : Addr) (v : Byte) : (b.write8 a v).log = .write a v :: b.log := by
  unfold Bus.write8; split <;> rfl

/-- ROM keeps its image. -/
theorem Bus.write8_rom {b : Bus} {a : Addr} (h : b.kindAt a = .rom) (v : Byte) : (b.write8 a v).mem = b.mem := by
  simp only [Bus.write8, h]

theorem Bus.read8_device {b : Bus} {a : Addr} (h : b.kindAt a = .device) :
    (b.read8 a).1 = Config.deviceRead b.devices a ∧ (b.read8 a).2.devices = Config.deviceAfterRead b.devices a := by
  simp only [Bus.read8, h, and_self]

theorem memory_read_write (m : Memory) (a c : Addr) (v : Byte) (h : m.wf = true) :
    (m.write a.toNat v).read c.toNat = if c = a then v else m.read c.toNat := by
  split
  next same => rw [same, Memory.read_write_same m a.toNat v h]
  next other => exact Memory.read_write_other m a.toNat c.toNat v ((addr_ne_iff c a).1 other)

/-! Pointers as numbers (R84, R152). -/

/-- A 16-bit pointer from RAM or ROM, with the bank it is used in. -/
theorem toNat_mkAddr_read16 {s : State} {st : AddrStep} {a : Addr} (k : Byte) (h : s.backed a = true)
    (h' : s.backed (st.next a) = true) :
    (mkAddr k (read16 st a s).1).toNat = k.toNat * 65536 + ((s.peek (st.next a)).toNat * 256 + (s.peek a).toNat) := by
  rw [State.backed_iff] at h h'
  have value : (read16 st a s).1 = pair (s.peek (st.next a)) (s.peek a) := Bus.read16_backed s.bus st a h h'
  rw [toNat_mkAddr, value, toNat_pair]

/-- A 24-bit pointer from RAM or ROM. -/
theorem toNat_read24 {s : State} {st : AddrStep} {a : Addr} (h : s.backed a = true) (h' : s.backed (st.next a) = true)
    (h'' : s.backed (st.next (st.next a)) = true) :
    (read24 st a s).1.toNat =
      (s.peek (st.next (st.next a))).toNat * 65536 + (s.peek (st.next a)).toNat * 256 + (s.peek a).toNat := by
  rw [State.backed_iff] at h h' h''
  have value : (read24 st a s).1 = mkAddr (s.peek (st.next (st.next a))) (pair (s.peek (st.next a)) (s.peek a)) :=
    Bus.read24_backed s.bus st a h h' h''
  rw [value, toNat_mkAddr, toNat_pair, Nat.add_assoc]

end Sys2Proof.Machine

namespace Sys2Proof.Claim
open Sys2Proof.Machine

/-- Settles O6: the laws of `Memory.write` at a 24-bit address. -/
theorem memoryReadsBackTheByteWritten : Obligations.MemoryReadsBackTheByteWritten :=
  fun m a c v hwf => ⟨Memory.wf_write m a v hwf, memory_read_write m a c v hwf⟩

/-- Settles O7: the three branches of `read8` and of `write8`. -/
theorem busPortServesRamRomAndOracle : Obligations.BusPortServesRamRomAndOracle := by
  intro b a v hwf
  refine ⟨fun ram => ?ram, fun rom => ⟨Bus.write8_rom rom v, ?rom⟩, Bus.read8_device, Bus.read8_mem b a,
    Bus.write8_wf b a v hwf⟩
  case ram =>
    have backed : (b.write8 a v).kindAt a ≠ .device := by simp [ram]
    rw [Bus.read8_backed _ a backed, Bus.write8_same b a v ram hwf]
  case rom => exact Bus.read8_backed b a (by simp [rom])

/-- Settles O8. -/
theorem addressStepsWrapAsStated : Obligations.AddressStepsWrapAsStated :=
  fun a => ⟨AddrStep.toNat_next_long a, AddrStep.toNat_next_bank a, AddrStep.toNat_next_page a⟩

/-- Settles O9: each access puts itself in front of the log. -/
theorem sixteenBitAccessesKeepTheirOrder : Obligations.SixteenBitAccessesKeepTheirOrder := by
  intro b st a v
  refine ⟨?read, ?store, ?writeBack⟩
  case read =>
    obtain ⟨l, h, value, log⟩ := Bus.read16_log b st a
    exact ⟨l, h, Prod.ext value rfl, log⟩
  case store => rw [Bus.writeW, Bus.write8_log, Bus.write8_log]
  case writeBack => rw [Bus.writeRmw, Bus.write8_log, Bus.write8_log]

/-- Settles O12: every mode reads its pointer with `read16` or `read24`, whose value in RAM or ROM is a number of its
bytes; Y is added modulo 2^24. -/
theorem indirectModesFollowTheirPointer : Obligations.IndirectModesFollowTheirPointer := by
  intro s d op
  refine ⟨fun hop => ?linear, fun hop => ?stepped, fun idx h0 h1 => ?short, fun h0 h1 h2 => ?long, fun h0 h1 => ?stack⟩
  case linear => exact if_pos (List.contains_iff_mem.2 hop)
  case stepped => exact if_neg (mt List.contains_iff_mem.1 hop)
  case short =>
    have pointer := toNat_mkAddr_read16 s.db h0 h1
    refine ⟨?ind, ?indX, ?indY⟩
    case ind =>
      rintro rfl
      exact ⟨rfl, pointer, sameMemory_of_mem_eq (eaDpInd_onlyReads d s).memory⟩
    case indX =>
      rintro rfl
      exact ⟨rfl, pointer, sameMemory_of_mem_eq (eaDpIndX_onlyReads d s).memory⟩
    case indY =>
      rintro rfl
      refine ⟨rfl, ?_, sameMemory_of_mem_eq (eaDpIndY_onlyReads d s).memory⟩
      exact (toNat_addIndex _ s.y).trans (congrArg (fun p => (p + s.y.toNat) % 16777216) pointer)
  case long =>
    have pointer := toNat_read24 h0 h1 h2
    refine ⟨rfl, pointer, sameMemory_of_mem_eq (eaDpIndL_onlyReads op d s).memory, rfl, ?_,
      sameMemory_of_mem_eq (eaDpIndLY_onlyReads op d s).memory⟩
    exact (toNat_addIndex _ s.y).trans (congrArg (fun p => (p + s.y.toNat) % 16777216) pointer)
  case stack =>
    refine ⟨rfl, ?_, sameMemory_of_mem_eq (eaSrIndY_onlyReads d s).memory⟩
    have high : AddrStep.bank.next (bank0 (s.sp + zext16 d)) = bank0 (s.sp + zext16 d + 1) :=
      AddrStep.next_bank_mkAddr 0x00 _
    rw [← high] at h1 ⊢
    have pointer := toNat_mkAddr_read16 s.db h0 h1
    rw [← Nat.add_assoc] at pointer
    exact (toNat_addIndex _ s.y).trans (congrArg (fun p => (p + s.y.toNat) % 16777216) pointer)

/-- Settles O13: `memRead` is a read of the bus at the width, an immediate is its value cut to the width. -/
theorem operandIsTheLittleEndianValue : Obligations.OperandIsTheLittleEndianValue := by
  intro s ea
  have same (w : Width) : SameMemory s (memRead w ea s).2 := sameMemory_of_mem_eq (memRead_onlyReads w ea s).memory
  refine ⟨⟨rfl, rfl, rfl, rfl⟩, fun h => ⟨?byte, fun h' => ?word⟩, same .w8, same .w16, fun _ _ => rfl,
    fun w b v => ⟨fun hw => ?imm8, fun hw => ?imm16⟩, fun w v => ?cut⟩
  case byte => exact congrArg zext16 (Bus.read8_backed s.bus ea.addr ((State.backed_iff s _).1 h))
  case word =>
    exact Bus.read16_backed s.bus ea.step ea.addr ((State.backed_iff s _).1 h) ((State.backed_iff s _).1 h')
  case imm8 =>
    rw [immOperand, hw]
    exact congrArg (fun byte => (zext16 byte, s)) (lo_zext16 b)
  case imm16 => simp only [immOperand, hw, Width.trunc, Imm.value]
  case cut =>
    cases hw : w s with
    | w8 => simp only [immOperand, hw, Width.trunc, if_true]
    | w16 => simp only [immOperand, hw, Width.trunc, reduceCtorEq, if_false]

end Sys2Proof.Claim
end

section
/-! SUPPORT and PROOFS. The stack read back and the P byte (20_memory.md section 3, 10_state.md section 3): what a pull
answers where pushed bytes stand, the bits of P, then O33, O34 and O41 to O43. -/

namespace Sys2Proof.Machine

/-! The bits of the P byte (R40, R41). -/

theorem getLsbD_ite_zero (c : Bool) (v : Byte) (i : Nat) : (if c then v else 0).getLsbD i = (c && v.getLsbD i) := by
  cases c <;> simp

/-- Bits 7, 6, 3, 2, 1 and 0 of P are flags in both modes. -/
theorem pByte_bits (e b : Bool) (p : Flags) :
    (pByte e b p).getLsbD 7 = p.n ∧ (pByte e b p).getLsbD 6 = p.v ∧ (pByte e b p).getLsbD 3 = p.d ∧
    (pByte e b p).getLsbD 2 = p.i ∧ (pByte e b p).getLsbD 1 = p.z ∧ (pByte e b p).getLsbD 0 = p.c := by
  simp only [pByte, BitVec.getLsbD_or, getLsbD_ite_zero]
  simp

theorem pByte_bit5 (e b : Bool) (p : Flags) : (pByte e b p).getLsbD 5 = (e || p.m) := by
  simp only [pByte, BitVec.getLsbD_or, getLsbD_ite_zero]
  simp

theorem pByte_bit4 (e b : Bool) (p : Flags) : (pByte e b p).getLsbD 4 = if e then b else p.x := by
  simp only [pByte, BitVec.getLsbD_or, getLsbD_ite_zero]
  simp

/-- `SetP` after the push of P: in emulation mode bits 5 and 4 are ignored. -/
theorem flagsOfByte_pByte (e b : Bool) (p : Flags) :
    flagsOfByte e (pByte e b p) = { p with m := e || p.m, x := e || p.x } := by
  obtain ⟨n, v, d, i, z, c⟩ := pByte_bits e b p
  rw [flagsOfByte, n, v, d, i, z, c, pByte_bit5, pByte_bit4]
  cases e <;> rfl

/-- In native mode the P byte of the flags a byte gives is the byte. -/
theorem pByte_flagsOfByte (b : Bool) (v : Byte) : pByte false b (flagsOfByte false v) = v := by
  obtain ⟨bit7, bit6, bit3, bit2, bit1, bit0⟩ := pByte_bits false b (flagsOfByte false v)
  have bit5 := pByte_bit5 false b (flagsOfByte false v)
  have bit4 := pByte_bit4 false b (flagsOfByte false v)
  apply BitVec.eq_of_getLsbD_eq
  intro k hk
  match k, hk with
  | 0, _ => exact bit0
  | 1, _ => exact bit1
  | 2, _ => exact bit2
  | 3, _ => exact bit3
  | 4, _ => exact bit4
  | 5, _ => exact bit5
  | 6, _ => exact bit6
  | 7, _ => exact bit7

/-! What a pull answers (R88). -/

@[simp] theorem pull8_backed (lin : Bool) (s : State) (a : Addr) : (pull8 lin s).2.backed a = s.backed a := by
  simp [pull8_eq, State.backed]

@[simp] theorem pull8_peek (lin : Bool) (s : State) (a : Addr) : (pull8 lin s).2.peek a = s.peek a := by
  simp [pull8_eq, State.peek]

/-- From RAM or ROM a pull answers the byte above S. -/
theorem pull8_value {lin : Bool} {s : State} (h : s.backed (bank0 (stackUp s.e lin s.sp)) = true) :
    (pull8 lin s).1 = s.peek (bank0 (stackUp s.e lin s.sp)) :=
  Bus.read8_backed s.bus _ ((State.backed_iff s _).1 h)

/-- Each byte of `cells` stands in RAM or ROM at its address. -/
def Holds (cells : List (Addr × Byte)) (s : State) : Prop := ∀ c ∈ cells, s.backed c.1 = true ∧ s.peek c.1 = c.2

theorem Holds.pull8 {cells : List (Addr × Byte)} {s : State} (h : Holds cells s) (lin : Bool) :
    Holds cells (pull8 lin s).2 := by
  intro c hc
  rw [pull8_backed, pull8_peek]
  exact h c hc

theorem Holds.pull8_value {cells : List (Addr × Byte)} {s : State} (h : Holds cells s) {lin : Bool} {v : Byte}
    (hv : (bank0 (stackUp s.e lin s.sp), v) ∈ cells) : (Machine.pull8 lin s).1 = v := by
  obtain ⟨backed, value⟩ := h _ hv
  exact (Machine.pull8_value backed).trans value

theorem Holds.pull16_value {cells : List (Addr × Byte)} {s : State} (h : Holds cells s) {lin : Bool} {v : Word}
    (low : (bank0 (stackUp s.e lin s.sp), lo v) ∈ cells)
    (high : (bank0 (stackUp s.e lin (stackUp s.e lin s.sp)), hi v) ∈ cells) : (pull16 lin s).1 = v := by
  have lowByte := h.pull8_value low
  have highByte := (h.pull8 lin).pull8_value (lin := lin) high
  rw [pull16, lowByte, highByte, pair_hi_lo]

end Sys2Proof.Machine

namespace Sys2Proof.Claim
open Sys2Proof.Machine

theorem backed_of_ram {s : State} {a : Addr} (h : s.ram a = true) : s.backed a = true := by
  simp [State.backed, (State.ram_iff s a).1 h]

/-- Where the bytes go to RAM, every other byte of memory reads as before. -/
theorem WritesBytes.other {cells : List (Addr × Byte)} {s t : State} (h : WritesBytes cells s t)
    (hram : ∀ c ∈ cells, s.ram c.1 = true) (a : Addr) (ha : ∀ c ∈ cells, a ≠ c.1) : t.peek a = s.peek a :=
  (h fun c hc => backed_of_ram (hram c hc)).1 a ha

/-- Bytes written to RAM stand there. -/
theorem WritesBytes.holds {cells : List (Addr × Byte)} {s t : State} (h : WritesBytes cells s t)
    (hwf : s.bus.mem.wf = true) (hram : ∀ c ∈ cells, s.ram c.1 = true) (hregions : t.bus.regions = s.bus.regions) :
    Holds cells t := by
  intro c hc
  refine ⟨?_, (h fun c hc => backed_of_ram (hram c hc)).2 hwf c hc (hram c hc)⟩
  rw [State.backed, Bus.kindAt, hregions]
  exact backed_of_ram (hram c hc)

theorem stackUp_eq_above (e lin : Bool) (v : Word) : stackUp e lin v = above e lin v := by
  cases e <;> cases lin <;> rfl

/-- Settles O33: `pull8` moves S with `stackUp` and reads there, `pull16` is two of them. -/
theorem pulledBytesAreThoseAboveS : Obligations.PulledBytesAreThoseAboveS := by
  intro s lin
  have up := stackUp_eq_above s.e lin
  simp only [← up]
  refine ⟨rfl, rfl, rfl, rfl, rfl, fun h1 => ⟨pull8_value h1, fun h2 => ?word⟩⟩
  case word =>
    have high : (pull8 lin (pull8 lin s).2).1 = (pull8 lin s).2.peek (bank0 (stackUp s.e lin (stackUp s.e lin s.sp))) :=
      pull8_value (s := (pull8 lin s).2) ((pull8_backed lin s _).trans h2)
    rw [pull16, pull8_value h1, high, pull8_peek]

/-- Settles O34: the pull goes back over the bytes the push wrote, the last one first. -/
theorem pullAfterPushGivesTheValueBack : Obligations.PullAfterPushGivesTheValueBack := by
  intro s lin v hwf htop hbelow
  have wordRam : ∀ c ∈ wordCells lin v s, s.ram c.1 = true := by simp [wordCells, htop, hbelow]
  have byteRam : ∀ c ∈ [(bank0 s.sp, lo v)], s.ram c.1 = true := by simpa using htop
  have word : Holds (wordCells lin v s) (afterPushWord lin v s) :=
    (pushedWord_afterPushWord (OnlyReads.refl s) lin v).holds hwf wordRam (by simp [afterPushWord])
  have written : WritesBytes [(bank0 s.sp, lo v)] s (push8 lin (lo v) s) :=
    writesBytes_of_writeCells (OnlyReads.refl s) (List.nodup_singleton _) rfl
  have byte : Holds [(bank0 s.sp, lo v)] (push8 lin (lo v) s) := written.holds hwf byteRam (push8_regions lin (lo v) s)
  have up (w : Word) : stackUp s.e lin (below s.e lin w) = w := by rw [← stackDown_eq_below, stackUp_stackDown]
  rw [push16_eq_afterPushWord]
  refine ⟨word.pull16_value ?low ?high, ?sp, byte.pull8_value ?_, stackUp_stackDown s.e lin s.sp⟩
  case low => simp [afterPushWord, wordCells, up]
  case high => simp [afterPushWord, wordCells, up]
  case sp => exact (congrArg (stackUp s.e lin) (up _)).trans (up s.sp)
  · simp [push8_eq]

/-- Settles O41: the two branches of `exchangeCarry`. -/
theorem xceExchangesCarryAndEmulation : Obligations.XceExchangesCarryAndEmulation :=
  fun _ => ⟨rfl, fun hc => congrArg Host.Outcome.next (exchangeCarry_clear hc),
    fun hc => congrArg Host.Outcome.next (exchangeCarry_set hc)⟩

/-- Settles O42: P bit by bit, and `flagsOfByte` on those bits. -/
theorem statusByteRoundTrip : Obligations.StatusByteRoundTrip :=
  fun p b => ⟨fun e => pByte_bits e b p, pByte_bit5 false b p, pByte_bit4 false b p, pByte_bit5 true b p,
    pByte_bit4 true b p, flagsOfByte_pByte false b p, flagsOfByte_pByte true b p,
    fun v => ⟨pByte_flagsOfByte b v, rfl⟩⟩

/-- Settles O43: the table, written out. -/
theorem vectorTable : Obligations.VectorTable :=
  ⟨⟨rfl, rfl⟩, ⟨rfl, rfl⟩, ⟨rfl, rfl⟩, ⟨rfl, rfl⟩, rfl, rfl, rfl, rfl⟩

end Sys2Proof.Claim
end

section
/-! SUPPORT and PROOFS. Calls and entries undone (46_control.md section 3, 48_system.md section 3): stack accesses that
stay in page 1, what a return finds on the stack, then O39 and O46. -/

namespace Sys2Proof.Machine

/-! A linear access high enough in page 1 is one that wraps there (R88, R90). -/

theorem stackDown_stays {e lin : Bool} {v : Word} (h : e = true → lin = false ∨ 1 ≤ (lo v).toNat) :
    stackDown e lin v = stackDown e false v := by
  have := v.isLt
  rw [toNat_lo] at h
  rw [← BitVec.toNat_inj, stackDown_toNat, stackDown_toNat]
  cases e
  case false => rfl
  case true =>
    obtain rfl | hlow := h rfl
    · rfl
    · cases lin
      · rfl
      · simp only [Bool.not_true, Bool.not_false, Bool.and_true, Bool.and_false, Bool.false_eq_true, if_true, if_false]
        omega

theorem stackUp_stays {e lin : Bool} {v : Word} (h : e = true → lin = false ∨ (lo v).toNat + 1 ≤ 255) :
    stackUp e lin v = stackUp e false v := by
  have := v.isLt
  rw [toNat_lo] at h
  rw [← BitVec.toNat_inj, stackUp_toNat, stackUp_toNat]
  cases e
  case false => rfl
  case true =>
    obtain rfl | hlow := h rfl
    · rfl
    · cases lin
      · rfl
      · simp only [Bool.not_true, Bool.not_false, Bool.and_true, Bool.and_false, Bool.false_eq_true, if_true, if_false]
        omega

/-! S[7:0] after a push and after a pull, in every mode. -/

theorem lo_stackDown (e lin : Bool) (v : Word) : lo (stackDown e lin v) = lo v - 1 := by
  have := v.isLt
  rw [← BitVec.toNat_inj, toNat_lo, stackDown_toNat, BitVec.toNat_sub, toNat_lo]
  split
  · simp; omega
  · simp; omega

theorem lo_stackUp (e lin : Bool) (v : Word) : lo (stackUp e lin v) = lo v + 1 := by
  have := v.isLt
  rw [← BitVec.toNat_inj, toNat_lo, stackUp_toNat, BitVec.toNat_add, toNat_lo]
  split
  · simp
  · simp

section Stays

variable {lin : Bool} {s : State}

theorem push8_stays (h : s.e = true → lin = false ∨ 1 ≤ (lo s.sp).toNat) (v : Byte) : push8 lin v s = push8 false v s := by
  rw [push8_eq, push8_eq, stackDown_stays h]

theorem pull8_stays (h : s.e = true → lin = false ∨ (lo s.sp).toNat + 1 ≤ 255) : pull8 lin s = pull8 false s := by
  rw [pull8_eq, pull8_eq, stackUp_stays h]

theorem toNat_lo_sp_pull8 (h : (lo s.sp).toNat + 1 ≤ 255) :
    (lo (pull8 lin s).2.sp).toNat = (lo s.sp).toNat + 1 := by
  have low : lo (pull8 lin s).2.sp = lo s.sp + 1 := lo_stackUp s.e lin s.sp
  rw [low]
  bv_omega

theorem pull16_stays (h : s.e = true → lin = false ∨ (lo s.sp).toNat + 2 ≤ 255) : pull16 lin s = pull16 false s := by
  have first : pull8 lin s = pull8 false s := pull8_stays fun he => (h he).imp_right (by omega)
  have second : pull8 lin (pull8 false s).2 = pull8 false (pull8 false s).2 := by
    refine pull8_stays fun he => (h he).imp_right fun low => ?_
    rw [toNat_lo_sp_pull8 (by omega)]
    omega
  rw [pull16, first, second, ← pull16]

/-- Forcing S[15:8] after the last push gives the S of a push that wraps in page 1. -/
theorem forcePageOne_push8 (h : s.e = true → hi s.sp = 0x01) (lin : Bool) (v : Byte) :
    forcePageOne (push8 lin v s) = push8 false v s := by
  have forced : (if s.e then pair 0x01 (lo (stackDown s.e lin s.sp)) else stackDown s.e lin s.sp) =
      stackDown s.e false s.sp := by
    cases he : s.e
    case false => rfl
    case true => exact (congrArg (pair · _) (h he).symm).trans (congrArg (pair (hi s.sp)) (lo_stackDown true lin s.sp))
  exact congrArg (fun sp => (push8 lin v s).withSP sp) forced

/-- In emulation mode a push that wraps stays in page 1. -/
theorem hi_sp_push8 (hs : s.e = true → hi s.sp = 0x01) (v : Byte) :
    (push8 false v s).e = true → hi (push8 false v s).sp = 0x01 := by
  intro he
  rw [push8_eq, show s.e = true from he]
  exact (stackDown_page s.sp).trans (hs he)

theorem forcePageOne_push16 (hs : s.e = true → hi s.sp = 0x01) (h : s.e = true → lin = false ∨ 1 ≤ (lo s.sp).toNat)
    (v : Word) : forcePageOne (push16 lin v s) = push16 false v s := by
  rw [push16, push8_stays h, forcePageOne_push8 (hi_sp_push8 hs (hi v))]
  rfl

/-- JSL's pushes: the bank, then the word (R347). -/
theorem forcePageOne_push16_push8 (hs : s.e = true → hi s.sp = 0x01)
    (h : s.e = true → lin = false ∨ 2 ≤ (lo s.sp).toNat) (k : Byte) (v : Word) :
    forcePageOne (push16 lin v (push8 lin k s)) = push16 false v (push8 false k s) := by
  rw [push8_stays fun he => (h he).imp_right (by omega)]
  refine forcePageOne_push16 (hi_sp_push8 hs k) (fun he => (h he).imp_right fun low => ?_) v
  rw [push8_eq, lo_stackDown]
  bv_omega

end Stays

/-! What runs between a call's pushes and its return (R346 to R348). -/

/-- A jump away from `q`: PB, PC, the bus log and the devices may differ, memory, its regions and every other field stay. -/
structure Jumped (q t : State) : Prop where
  state   : t = { q with pb := t.pb, pc := t.pc, bus := t.bus }
  memory  : t.bus.mem = q.bus.mem
  regions : t.bus.regions = q.bus.regions

/-- The target may be read first. -/
theorem OnlyReads.jumped {q u : State} (h : OnlyReads q u) (k : Byte) (a : Word) : Jumped q ((u.withPB k).withPC a) := by
  refine ⟨?_, h.memory, h.regions⟩
  rw [h.state]
  rfl

theorem Jumped.sp {q t : State} (h : Jumped q t) : t.sp = q.sp := by rw [h.state]

theorem Jumped.forcePageOne {q t : State} (h : Jumped q t) : Jumped (forcePageOne q) (forcePageOne t) := by
  refine ⟨?_, h.memory, h.regions⟩
  rw [h.state]
  rfl

end Sys2Proof.Machine

namespace Sys2Proof.Claim
open Sys2Proof.Machine

theorem below_stays {e lin : Bool} {v : Word} (h : e = true → lin = false ∨ 1 ≤ (lo v).toNat) :
    below e lin v = below e false v := by
  rw [← stackDown_eq_below, ← stackDown_eq_below, stackDown_stays h]

theorem wordCells_stays {lin : Bool} {s : State} (h : s.e = true → lin = false ∨ 1 ≤ (lo s.sp).toNat) (v : Word) :
    wordCells lin v s = wordCells false v s := by
  rw [wordCells, wordCells, below_stays h]

theorem longCells_stays {lin : Bool} {s : State} (h : s.e = true → lin = false ∨ 2 ≤ (lo s.sp).toNat) (k : Byte)
    (v : Word) : longCells lin k v s = longCells false k v s := by
  have first : below s.e lin s.sp = below s.e false s.sp := below_stays fun he => (h he).imp_right (by omega)
  have second : below s.e lin (below s.e false s.sp) = below s.e false (below s.e false s.sp) := by
    refine below_stays fun he => (h he).imp_right fun low => ?_
    rw [← stackDown_eq_below, lo_stackDown]
    bv_omega
  simp only [longCells, first, second]

/-- R90: no opcode inherited from the 6502 is linear. -/
theorem linear_pageOne {s : State} (h : s.params.wf = true) {op : Byte} (hop : op ∈ Config.pageOneStackOps) :
    linear s op = false := by
  have ops := (Bool.and_eq_true_iff.1 h).2
  refine Bool.eq_false_iff.2 fun hlin => ?_
  have inherited := List.all_eq_true.1 ops op (List.contains_iff_mem.1 hlin)
  simp [hop] at inherited

/-- What a call leaves, S[15:8] forced: `cells` are written, S, PB and PC have moved, every other register is as before. -/
structure Called (cells : List (Addr × Byte)) (s t : State) : Prop where
  state   : t = { s with sp := t.sp, pb := t.pb, pc := t.pc, bus := t.bus }
  written : WritesBytes cells s t
  regions : t.bus.regions = s.bus.regions

theorem called_of_jumped {cells : List (Addr × Byte)} {s q t : State} (hq : Accesses s q) (written : WritesBytes cells s q)
    (h : Jumped q t) : Called cells s t := by
  refine ⟨?_, written.of_sameMemory (sameMemory_of_mem_eq h.memory), h.regions.trans hq.regions⟩
  rw [h.state, hq.state]

section Called

variable {cells : List (Addr × Byte)} {s t u : State} (h : Called cells s t)
include h

theorem Called.mode : t.e = s.e := by rw [h.state]

theorem Called.params : t.params = s.params := by rw [h.state]

/-- A return that finds PC, PB and S again leaves every register as before the call. -/
theorem Called.resumed (hinv : Inv s) (hu : u = { t with pc := s.pc, pb := s.pb, sp := s.sp, bus := u.bus }) :
    forcePageOne u = { s with bus := u.bus } := by
  have forced : (if s.e then pair 0x01 (lo s.sp) else s.sp) = s.sp := by
    split
    next he => rw [← hinv.emulationS he, pair_hi_lo]
    next => rfl
  rw [h.state] at hu
  rw [hu]
  exact congrArg (fun sp => { s with sp := sp, bus := u.bus }) forced

/-- A return changes no memory. -/
theorem Called.kept (hram : ∀ c ∈ cells, s.ram c.1 = true) (same : SameMemory t u) (a : Addr)
    (ha : ∀ c ∈ cells, a ≠ c.1) : u.peek a = s.peek a :=
  (same a).trans (h.written.other hram a ha)

end Called

theorem stackUp_below (e lin : Bool) (v : Word) : stackUp e lin (below e lin v) = v := by
  rw [← stackDown_eq_below, stackUp_stackDown]

/-- The pulls of RTS find the word a call pushed. -/
theorem rts_resumes {s r : State} (hinv : Inv s) (called : Called (wordCells false (s.pc - 1) s) s r)
    (hsp : r.sp = below s.e false (below s.e false s.sp)) (hpb : r.pb = s.pb)
    (hram : ∀ c ∈ wordCells false (s.pc - 1) s, s.ram c.1 = true) :
    ∃ u, exec .rts r = .next u ∧ SameMemory r u ∧ forcePageOne u = { s with bus := u.bus } := by
  have holds := called.written.holds hinv.memory hram called.regions
  have first : stackUp r.e false r.sp = below s.e false s.sp := by rw [called.mode, hsp, stackUp_below]
  have second : stackUp r.e false (stackUp r.e false r.sp) = s.sp := by rw [first, called.mode, stackUp_below]
  have notLinear : linear r 0x60 = false := linear_pageOne (called.params ▸ hinv.params) (by decide)
  have address : (pull16 false r).1 = s.pc - 1 :=
    holds.pull16_value (by simp [first, wordCells]) (by simp [second, wordCells])
  have back : (pull16 false r).2.sp = s.sp := second
  obtain ⟨-, ⟨u, hret, same, hu⟩, -⟩ := returnsPullTheReturnAddress r
  refine ⟨u, hret, same, called.resumed hinv ?_⟩
  rw [hu]
  simp only [notLinear, address, back, BitVec.sub_add_cancel, hpb]

/-- RTS after any call that pushes the return address and jumps. -/
theorem rts_returns {call : Instr} {lin : Bool} {s t : State} (hinv : Inv s) (hcall : exec call s = .next t)
    (stays : s.e = true → lin = false ∨ 1 ≤ (lo s.sp).toNat) (hjump : Jumped (push16 lin (s.pc - 1) s) t)
    (hpb : t.pb = s.pb) (hram : ∀ c ∈ wordCells lin (s.pc - 1) s, s.ram c.1 = true) :
    Returns call .rts (wordCells lin (s.pc - 1) s) s := by
  rw [wordCells_stays stays] at hram ⊢
  have jumped := hjump.forcePageOne
  rw [forcePageOne_push16 hinv.emulationS stays, push16_eq_afterPushWord] at jumped
  have pushes := push16_accesses false (s.pc - 1) s
  rw [push16_eq_afterPushWord] at pushes
  have called := called_of_jumped pushes (pushedWord_afterPushWord (OnlyReads.refl s) false (s.pc - 1)) jumped
  obtain ⟨u, hret, same, resumed⟩ := rts_resumes hinv called jumped.sp hpb hram
  exact ⟨t, u, hcall, hret, resumed, called.kept hram same⟩

/-- The pulls of RTL find the word and the bank JSL pushed, where they stay in page 1. -/
theorem rtl_resumes {s r : State} (hinv : Inv s) (called : Called (longCells false s.pb (s.pc - 1) s) s r)
    (hsp : r.sp = below s.e false (below s.e false (below s.e false s.sp))) (stays : StaysInPageOne 0x6B 3 s)
    (hram : ∀ c ∈ longCells false s.pb (s.pc - 1) s, s.ram c.1 = true) :
    ∃ u, exec .rtl r = .next u ∧ SameMemory r u ∧ forcePageOne u = { s with bus := u.bus } := by
  have holds := called.written.holds hinv.memory hram called.regions
  have first : stackUp r.e false r.sp = below s.e false (below s.e false s.sp) := by
    rw [called.mode, hsp, stackUp_below]
  have second : stackUp r.e false (stackUp r.e false r.sp) = below s.e false s.sp := by
    rw [first, called.mode, stackUp_below]
  have third : stackUp r.e false (stackUp r.e false (stackUp r.e false r.sp)) = s.sp := by
    rw [second, called.mode, stackUp_below]
  have lowStart : lo r.sp = lo s.sp - 1 - 1 - 1 := by simp only [hsp, ← stackDown_eq_below, lo_stackDown]
  have lowThird : lo (pull16 false r).2.sp = lo s.sp - 1 := by
    have sp : (pull16 false r).2.sp = below s.e false s.sp := second
    rw [sp, ← stackDown_eq_below, lo_stackDown]
  have sameOp : linear r 0x6B = linear s 0x6B := by rw [linear, called.params, ← linear]
  have word : pull16 (linear r 0x6B) r = pull16 false r := by
    refine pull16_stays fun he => ?_
    rw [sameOp, lowStart]
    exact (stays (called.mode ▸ he)).imp_right (by bv_omega)
  have bank : pull8 (linear r 0x6B) (pull16 false r).2 = pull8 false (pull16 false r).2 := by
    refine pull8_stays fun he => ?_
    rw [sameOp, lowThird]
    exact (stays (called.mode ▸ he)).imp_right (by bv_omega)
  have address : (pull16 false r).1 = s.pc - 1 :=
    holds.pull16_value (by simp [first, longCells]) (by simp [second, longCells])
  have back : (pull8 false (pull16 false r).2).2.sp = s.sp := third
  have k : (pull8 false (pull16 false r).2).1 = s.pb :=
    ((holds.pull8 false).pull8 false).pull8_value
      (List.mem_cons.2 (.inl (Prod.ext (congrArg bank0 third) rfl)))
  obtain ⟨-, -, u, hret, same, hu⟩ := returnsPullTheReturnAddress r
  refine ⟨u, hret, same, called.resumed hinv ?_⟩
  rw [hu]
  simp only [word, bank, address, back, k, BitVec.sub_add_cancel]

/-- RTL after JSL. -/
theorem rtl_returns {s : State} {al : Addr} (hinv : Inv s) (pushes : StaysInPageOne 0x22 2 s)
    (pulls : StaysInPageOne 0x6B 3 s) (hram : ∀ c ∈ longCells (linear s 0x22) s.pb (s.pc - 1) s, s.ram c.1 = true) :
    Returns (.jsl al) .rtl (longCells (linear s 0x22) s.pb (s.pc - 1) s) s := by
  rw [longCells_stays pushes] at hram ⊢
  have jumped := (((OnlyReads.refl (push16 (linear s 0x22) (s.pc - 1) (push8 (linear s 0x22) s.pb s))).jumped
    (bankOf al) (offOf al))).forcePageOne
  rw [forcePageOne_push16_push8 hinv.emulationS pushes] at jumped
  have accesses := (push8_accesses false s.pb s).trans (push16_accesses false (s.pc - 1) _)
  have written : WritesBytes (longCells false s.pb (s.pc - 1) s) s (push16 false (s.pc - 1) (push8 false s.pb s)) :=
    writesBytes_of_writeCells (OnlyReads.refl s) (longCells_nodup false s.pb (s.pc - 1) s)
      (congrArg State.bus (push16_push8_eq false s.pb (s.pc - 1) s))
  have called := called_of_jumped accesses written jumped
  have sp := jumped.sp.trans (congrArg State.sp (push16_push8_eq false s.pb (s.pc - 1) s))
  obtain ⟨u, hret, same, resumed⟩ := rtl_resumes hinv called sp pulls hram
  exact ⟨_, u, rfl, hret, resumed, called.kept hram same⟩

/-- Settles O39: S[15:8] forced after a call and its return makes their pushes and pulls those that wrap in page 1; there the
return pulls what the call pushed. -/
theorem returnUndoesTheCall : Obligations.ReturnUndoesTheCall := by
  intro s a al hinv
  refine ⟨fun hram => ?jsr, fun hram stays => ?jsrIndX, fun hram pushes pulls => rtl_returns hinv pushes pulls hram⟩
  case jsr =>
    have notLinear : linear s 0x20 = false := linear_pageOne hinv.params (by decide)
    exact rts_returns hinv rfl (fun _ => .inl notLinear) ((OnlyReads.refl _).jumped _ a) rfl hram
  case jsrIndX =>
    exact rts_returns hinv rfl stays ((read16_onlyReads .bank (mkAddr s.pb (a + s.x)) _).jumped s.pb _) rfl hram

/-! RTI after an entry (R395, R520). -/

/-- An index register whose high byte is 0 is its low byte. -/
theorem zext16_lo {v : Word} (h : hi v = 0x00) : zext16 (lo v) = v := by
  rw [← BitVec.toNat_inj, toNat_zext16, toNat_lo]
  have high := congrArg BitVec.toNat h
  rw [toNat_hi] at high
  simp at high
  omega

/-- S after the push of PB, which native mode alone makes: PCH goes there. -/
def frameTop (s : State) : Word := if s.e then s.sp else below s.e false s.sp

/-- The last three bytes of a frame. -/
theorem entryFrame_status (k : Interrupt) (s : State) :
    (bank0 (frameTop s), hi s.pc) ∈ entryFrame k s ∧ (bank0 (below s.e false (frameTop s)), lo s.pc) ∈ entryFrame k s ∧
    (bank0 (below s.e false (below s.e false (frameTop s))), pByte s.e k.bflag s.p) ∈ entryFrame k s := by
  unfold frameTop entryFrame
  cases s.e <;> simp

theorem entryFrame_bank {k : Interrupt} {s : State} (he : s.e = false) : (bank0 s.sp, s.pb) ∈ entryFrame k s := by
  simp [entryFrame, he]

/-- `SetP` of the P an entry pushed: m and x are 1 in emulation mode. -/
theorem flagsOfByte_pByte_inv {s : State} (hinv : Inv s) (b : Bool) : flagsOfByte s.e (pByte s.e b s.p) = s.p := by
  have hm : (s.e || s.p.m) = s.p.m := by
    cases he : s.e
    · rfl
    · exact (hinv.emulationM he).symm
  have hx : (s.e || s.p.x) = s.p.x := by
    cases he : s.e
    · rfl
    · exact (hinv.emulationX he).symm
  rw [flagsOfByte_pByte, hm, hx]

/-- The state an entry leaves, but for what its handler's address and the frame are. -/
structure Entered (k : Interrupt) (s r : State) : Prop where
  state : r = { s with
    p := r.p, iPoll := true, pb := 0x00, run := .running, nmiPending := if k = .nmi then false else s.nmiPending
    sp := r.sp, pc := r.pc, bus := r.bus }
  sp    : r.sp = below s.e false (below s.e false (below s.e false (frameTop s)))
  frame : Holds (entryFrame k s) r

theorem takeInterrupt_entered {k : Interrupt} {s : State} (hinv : Inv s) (hram : ∀ c ∈ entryFrame k s, s.ram c.1 = true) :
    Entered k s (takeInterrupt k s) := by
  have entry := takeInterrupt_eq k s
  obtain ⟨-, -, written⟩ := interruptEntrySavesAndVectors k s
  refine ⟨?state, ?sp, written.holds hinv.memory hram ?regions⟩
  case state =>
    rw [entry]
  case sp =>
    rw [entry, frameTop]
    cases s.e <;> rfl
  case regions => simp [entry]

section Entered

variable {k : Interrupt} {s r : State} (h : Entered k s r)
include h

theorem Entered.mode : r.e = s.e := by rw [h.state]

/-! S after one, two and three pulls. -/

theorem Entered.up : stackUp r.e false r.sp = below s.e false (below s.e false (frameTop s)) := by
  rw [h.mode, h.sp, stackUp_below]

theorem Entered.up_up : stackUp r.e false (stackUp r.e false r.sp) = below s.e false (frameTop s) := by
  rw [h.up, h.mode, stackUp_below]

theorem Entered.up_up_up : stackUp r.e false (stackUp r.e false (stackUp r.e false r.sp)) = frameTop s := by
  rw [h.up_up, h.mode, stackUp_below]

/-! RTI's pulls: P, then PC, then PB. -/

theorem Entered.pulls_status : (pull8 false r).1 = pByte s.e k.bflag s.p := by
  obtain ⟨-, -, status⟩ := entryFrame_status k s
  exact h.frame.pull8_value (h.up.symm ▸ status)

theorem Entered.pulls_address : (pull16 false (pull8 false r).2).1 = s.pc := by
  obtain ⟨high, low, -⟩ := entryFrame_status k s
  refine (h.frame.pull8 false).pull16_value ?_ ?_
  · exact h.up_up.symm ▸ low
  · exact h.up_up_up.symm ▸ high

theorem Entered.sp_address : (pull16 false (pull8 false r).2).2.sp = frameTop s := h.up_up_up

theorem Entered.sp_bank (he : s.e = false) : (pull8 false (pull16 false (pull8 false r).2).2).2.sp = s.sp := by
  have sp : stackUp r.e false (pull16 false (pull8 false r).2).2.sp = s.sp := by
    rw [h.sp_address, h.mode, frameTop, he, if_neg Bool.false_ne_true, stackUp_below]
  exact sp

theorem Entered.pulls_bank (he : s.e = false) : (pull8 false (pull16 false (pull8 false r).2).2).1 = s.pb := by
  have found : (bank0 (pull8 false (pull16 false (pull8 false r).2).2).2.sp, s.pb) ∈ entryFrame k s := by
    rw [h.sp_bank he]
    exact entryFrame_bank he
  exact (((h.frame.pull8 false).pull8 false).pull8 false).pull8_value found

/-- RTI brings back what the entry saved. -/
theorem Entered.rti (hinv : Inv s) :
    ∃ u, exec .rti r = .next u ∧ SameMemory r u ∧
      u = { s with
            bus := u.bus, iPoll := true, run := .running
            nmiPending := if k = .nmi then false else s.nmiPending
            pb := if s.e then 0x00 else s.pb } := by
  obtain ⟨-, u, hret, same, hu⟩ := rtiRestoresTheInterruptedState r
  refine ⟨u, hret, same, ?_⟩
  have index (v : Word) (hv : s.p.x = true → hi v = 0x00) : (if s.p.x then zext16 (lo v) else v) = v := by
    split
    next hx => exact zext16_lo (hv hx)
    next => rfl
  have x := index s.x hinv.narrowX
  have y := index s.y hinv.narrowY
  rw [hu]
  simp only [h.mode, h.pulls_status, h.pulls_address, flagsOfByte_pByte_inv hinv]
  cases he : s.e with
  | true =>
    simp only [if_true, h.sp_address, frameTop, he]
    rw [h.state]
    simp only [x, y, he]
  | false =>
    simp only [Bool.false_eq_true, if_false, h.sp_bank he, h.pulls_bank he]
    rw [h.state]
    simp only [x, y, he]

end Entered

/-- Settles O46: RTI pulls the frame the entry pushed, and `SetP` of the pushed P gives the flags back, since m and x are 1 in
emulation mode. -/
theorem rtiUndoesTheEntry : Obligations.RtiUndoesTheEntry := by
  intro k s hinv hram
  obtain ⟨u, hret, same, hu⟩ := (takeInterrupt_entered (k := k) hinv hram).rti hinv
  obtain ⟨-, -, written⟩ := interruptEntrySavesAndVectors k s
  exact ⟨u, hret, hu, fun a ha => (same a).trans (written.other hram a ha)⟩

end Sys2Proof.Claim
end

section
/-! SUPPORT and PROOFS. Adder and subtractor (44_arithmetic.md sections 1 and 4): operands and signed
overflow as numbers, then O20. -/

namespace Sys2Proof.Machine

/-! Operands at a width, as numbers (R11). -/

theorem toNat_trunc (w : Width) (v : Word) : (w.trunc v).toNat = Claim.natAt w v := by
  cases w with
  | w8 => exact (toNat_zext16 (lo v)).trans (toNat_lo v)
  | w16 => exact (Nat.mod_eq_of_lt v.isLt).symm

theorem natAt_lt (w : Width) (v : Word) : Claim.natAt w v < 2 ^ w.bits := Nat.mod_lt _ (Nat.two_pow_pos _)

theorem natAt_not (w : Width) (v : Word) : Claim.natAt w (~~~v) = 2 ^ w.bits - 1 - Claim.natAt w v := by
  have := v.isLt
  rw [Claim.natAt, Claim.natAt, BitVec.toNat_not]
  cases w <;> simp only [Width.bits] <;> omega

/-- A number below 2^w as a signed one. -/
def signedAt (w : Width) (x : Nat) : Int := if x < 2 ^ (w.bits - 1) then x else (x : Int) - 2 ^ w.bits

/-- A signed number the width does not hold. -/
def outOfRange (w : Width) (z : Int) : Prop := z < -(2 : Int) ^ (w.bits - 1) ∨ (2 : Int) ^ (w.bits - 1) ≤ z

theorem signedAt_natAt (w : Width) (v : Word) : signedAt w (Claim.natAt w v) = Claim.intAt w v := rfl

theorem signedAt_cases (w : Width) (x : Nat) :
    x < 2 ^ (w.bits - 1) ∧ signedAt w x = x ∨ 2 ^ (w.bits - 1) ≤ x ∧ signedAt w x = (x : Int) - 2 ^ w.bits := by
  unfold signedAt
  split
  next h => exact .inl ⟨h, rfl⟩
  next h => exact .inr ⟨not_lt.1 h, rfl⟩

/-- The complement of an operand is its negative less one. -/
theorem signedAt_complement (w : Width) {y : Nat} (hy : y < 2 ^ w.bits) :
    signedAt w (2 ^ w.bits - 1 - y) = -1 - signedAt w y := by
  have complement := signedAt_cases w (2 ^ w.bits - 1 - y)
  have operand := signedAt_cases w y
  cases w <;> simp only [Width.bits] at * <;> omega

/-- R290: both operands have one sign and the result the other exactly when the signed sum does not fit. -/
theorem overflowBit_iff {w : Width} {x y c r : Nat} (hx : x < 2 ^ w.bits) (hy : y < 2 ^ w.bits) (hc : c ≤ 1)
    (hr : r % 2 ^ w.bits = (x + y + c) % 2 ^ w.bits) :
    overflowBit w x y r = true ↔ outOfRange w (signedAt w x + signedAt w y + c) := by
  simp only [overflowBit, Nat.testBit_eq_decide_div_mod_eq, Bool.and_eq_true, beq_iff_eq, bne_iff_ne, ne_eq,
    decide_eq_decide, outOfRange]
  have left := signedAt_cases w x
  have right := signedAt_cases w y
  cases w <;> simp only [Width.bits] at * <;> omega

theorem toNat_ofNat_mod (w : Width) (q : Nat) : (BitVec.ofNat 16 (q % 2 ^ w.bits)).toNat = q % 2 ^ w.bits := by
  rw [BitVec.toNat_ofNat]
  cases w <;> simp only [Width.bits] <;> omega

theorem toNat_ofInt_mod (w : Width) (q : Nat) : (BitVec.ofInt 16 ((q : Int) % 2 ^ w.bits)).toNat = q % 2 ^ w.bits := by
  rw [BitVec.toNat_ofInt]
  cases w <;> simp only [Width.bits] <;> omega

end Sys2Proof.Machine

namespace Sys2Proof.Claim
open Sys2Proof.Machine

/-- Settles O20: the subtractor adds the complement, 2^w less one less the operand, and a carry that is the borrow's
complement. -/
theorem binaryCoresAreModularArithmetic : Obligations.BinaryCoresAreModularArithmetic := by
  intro w a b cin
  have ha := natAt_lt w a
  have hb := natAt_lt w b
  have hc : cin.toNat ≤ 1 := Bool.toNat_le cin
  refine ⟨?add, ?sub⟩
  case add =>
    simp only [addCore, toNat_trunc]
    refine ⟨toNat_ofNat_mod w _, ?_, overflowBit_iff ha hb hc rfl⟩
    have := Nat.two_pow_pos w.bits
    simp only [Bool.false_and, Bool.false_eq_true, if_false, decide_eq_true_iff]
    omega
  case sub =>
    have power : (2 : Int) ^ w.bits = (2 ^ w.bits : Nat) := by norm_cast
    have hborrow : (!cin).toNat + cin.toNat = 1 := by cases cin <;> rfl
    have hb' : 2 ^ w.bits - 1 - natAt w b < 2 ^ w.bits := by omega
    simp only [subCore, toNat_trunc, natAt_not, Bool.false_and, Bool.false_eq_true, if_false]
    refine ⟨(toNat_ofInt_mod w _).trans ?value, ?carry, (overflowBit_iff ha hb' hc ?result).trans ?overflow⟩
    case value =>
      rw [← Nat.add_mod_right]
      congr 1
      omega
    case carry =>
      rw [decide_eq_true_iff, power]
      omega
    case result => rw [power, ← Int.natCast_mod, Int.toNat_natCast, Nat.mod_mod]
    case overflow =>
      have signed : intAt w a - intAt w b - (!cin).toNat =
          signedAt w (natAt w a) + (-1 - signedAt w (natAt w b)) + cin.toNat := by
        rw [signedAt_natAt, signedAt_natAt]
        omega
      rw [signedAt_complement w hb, ← signed]
      rfl

end Sys2Proof.Claim
end

section
/-! SUPPORT and PROOFS. Decimal arithmetic (44_arithmetic.md section 1): BCD numbers by their top digit,
one digit of the decimal sum and of the decimal difference, then O21 and O22. -/

namespace Sys2Proof.Machine
open Claim (bcdValue bcdValid)

/-! BCD numbers by their top digit, and the digits below as a remainder. -/

/-- Digit `k` of a number. -/
def digit (k v : Nat) : Nat := v / 16 ^ k % 16

theorem and_nibble (a k : Nat) : a &&& (0xF <<< (4 * k)) = digit k a * 16 ^ k := by
  have nibble : a &&& (0xF <<< (4 * k)) = ((a >>> (4 * k)) &&& 0xF) <<< (4 * k) := by
    apply Nat.eq_of_testBit_eq
    intro i
    by_cases h : 4 * k ≤ i <;> simp [Nat.testBit_and, h]
  have mask : a >>> (4 * k) &&& 0xF = a >>> (4 * k) % 16 := Nat.and_two_pow_sub_one_eq_mod _ 4
  rw [nibble, mask, Nat.shiftRight_eq_div_pow, Nat.shiftLeft_eq, Nat.pow_mul]
  rfl

theorem bcdValue_succ : ∀ k v : Nat, bcdValue (k + 1) v = bcdValue k v + 10 ^ k * digit k v
  | 0, v => by simp [bcdValue, digit]
  | k + 1, v => by
    have top : digit k (v / 16) = digit (k + 1) v := by rw [digit, digit, Nat.div_div_eq_div_mul, Nat.pow_succ']
    rw [bcdValue, bcdValue_succ k, bcdValue, top]
    ring

theorem bcdValid_succ : ∀ k v : Nat, bcdValid (k + 1) v = true ↔ bcdValid k v = true ∧ digit k v ≤ 9
  | 0, v => by simp [bcdValid, digit]
  | k + 1, v => by
    have top : digit k (v / 16) = digit (k + 1) v := by rw [digit, digit, Nat.div_div_eq_div_mul, Nat.pow_succ']
    rw [bcdValid, Bool.and_eq_true, bcdValid_succ k, bcdValid, Bool.and_eq_true, top, and_assoc]

theorem digit_le_nine : ∀ {m k v : Nat}, bcdValid m v = true → k < m → digit k v ≤ 9
  | m + 1, k, v, h, hk => by
    obtain ⟨low, top⟩ := (bcdValid_succ m v).1 h
    obtain rfl | hlt := Nat.eq_or_lt_of_le (Nat.le_of_lt_succ hk)
    · exact top
    · exact digit_le_nine low hlt

theorem bcdValue_mod : ∀ k v : Nat, bcdValue k (v % 16 ^ k) = bcdValue k v
  | 0, _ => rfl
  | k + 1, v => by
    have low : v % 16 ^ (k + 1) % 16 = v % 16 := Nat.mod_mod_of_dvd v (dvd_pow_self 16 k.succ_ne_zero)
    have high : v % 16 ^ (k + 1) / 16 = v / 16 % 16 ^ k := by rw [Nat.pow_succ', Nat.mod_mul_right_div_self]
    rw [bcdValue, low, high, bcdValue_mod k, bcdValue]

theorem bcdValid_mod : ∀ k v : Nat, bcdValid k (v % 16 ^ k) = bcdValid k v
  | 0, _ => rfl
  | k + 1, v => by
    have low : v % 16 ^ (k + 1) % 16 = v % 16 := Nat.mod_mod_of_dvd v (dvd_pow_self 16 k.succ_ne_zero)
    have high : v % 16 ^ (k + 1) / 16 = v / 16 % 16 ^ k := by rw [Nat.pow_succ', Nat.mod_mul_right_div_self]
    rw [bcdValid, low, high, bcdValid_mod k, bcdValid]

theorem bcdValue_lt : ∀ {k v : Nat}, bcdValid k v = true → bcdValue k v < 10 ^ k
  | 0, _, _ => Nat.one_pos
  | k + 1, v, h => by
    obtain ⟨low, top⟩ := (bcdValid_succ k v).1 h
    have := bcdValue_lt low
    have : 10 ^ k * digit k v ≤ 10 ^ k * 9 := Nat.mul_le_mul_left _ top
    rw [bcdValue_succ, Nat.pow_succ]
    omega

/-- A digit put on top of the digits of `r` below place `k`. -/
def onTop (k d r : Nat) : Nat := d * 16 ^ k + r % 16 ^ k

theorem onTop_mod (k d r : Nat) : onTop k d r % 16 ^ k = r % 16 ^ k := by
  rw [onTop, Nat.mul_add_mod_self_right, Nat.mod_mod]

theorem digit_onTop (k d r : Nat) : digit k (onTop k d r) = d % 16 := by
  have := Nat.mod_lt r (Nat.pow_pos (n := k) (show 0 < 16 by decide))
  rw [digit, onTop, Nat.mul_comm, Nat.mul_add_div (by positivity), Nat.div_eq_of_lt this, Nat.add_zero]

theorem bcdValue_onTop (k d r : Nat) : bcdValue (k + 1) (onTop k d r) = bcdValue k r + 10 ^ k * (d % 16) := by
  rw [bcdValue_succ, digit_onTop, ← bcdValue_mod, onTop_mod, bcdValue_mod]

theorem bcdValid_onTop (k d r : Nat) : bcdValid (k + 1) (onTop k d r) = true ↔ bcdValid k r = true ∧ d % 16 ≤ 9 := by
  rw [bcdValid_succ, digit_onTop, ← bcdValid_mod, onTop_mod, bcdValid_mod]

/-- Whether a number with digit `d` on top reaches a bound of the next place is told by `d`. -/
theorem onTop_le_iff (k d r c : Nat) : c * 16 ^ k ≤ onTop k d r ↔ c ≤ d := by
  have low := Nat.mod_lt r (Nat.pow_pos (n := k) (show 0 < 16 by decide))
  rw [onTop]
  constructor
  · intro h
    by_contra hlt
    have : (d + 1) * 16 ^ k ≤ c * 16 ^ k := Nat.mul_le_mul_right _ (by omega)
    rw [Nat.succ_mul] at this
    omega
  · intro h
    exact (Nat.mul_le_mul_right _ h).trans (Nat.le_add_right _ _)

theorem carry_onTop (k d r : Nat) : 16 ^ (k + 1) - 1 < onTop k d r ↔ 16 ≤ d := by
  have := Nat.pow_pos (n := k + 1) (show 0 < 16 by decide)
  rw [← onTop_le_iff k d r 16, ← Nat.pow_succ']
  omega

/-! One digit of the decimal sum (R283). -/

theorem addDigit_eq (a b k cy r : Nat) : addDigit a b k cy r = onTop k (digit k a + digit k b + cy) r := by
  rw [addDigit, and_nibble, and_nibble, Nat.shiftLeft_eq, Nat.pow_mul, onTop]
  ring

/-- The adjusted digit of a sum. -/
def adjustedUp (d : Nat) : Nat := if 10 ≤ d then d + 6 else d

theorem adjust_sum (k d r : Nat) :
    (if bcdLimit k < onTop k d r then onTop k d r + 6 * 16 ^ k else onTop k d r) = onTop k (adjustedUp d) r := by
  have limit : bcdLimit k < onTop k d r ↔ 10 ≤ d := by
    have := Nat.pow_pos (n := k) (show 0 < 16 by decide)
    rw [← onTop_le_iff k d r 10, bcdLimit]
    omega
  simp only [limit, adjustedUp]
  split
  · rw [onTop, onTop]; ring
  · rfl

/-- The `k` low digits of the running value `r` and the carry `cy` are the decimal sum of those of the operands. -/
structure SumBelow (a b cin k r cy : Nat) : Prop where
  valid : bcdValid k r = true
  carry : cy ≤ 1
  value : bcdValue k r + 10 ^ k * cy = bcdValue k a + bcdValue k b + cin

theorem sumBelow_zero {a b cin : Nat} (hc : cin ≤ 1) : SumBelow a b cin 0 0 cin :=
  ⟨rfl, hc, by simp [bcdValue]⟩

theorem SumBelow.digit {a b cin k r cy d : Nat} (h : SumBelow a b cin k r cy) (ha : digit k a ≤ 9) (hb : digit k b ≤ 9)
    (hd : d = digit k a + digit k b + cy) :
    SumBelow a b cin (k + 1) (onTop k (adjustedUp d) r) (if 16 ≤ adjustedUp d then 1 else 0) := by
  obtain ⟨valid, carry, value⟩ := h
  have digits : adjustedUp d % 16 + 10 * (if 16 ≤ adjustedUp d then 1 else 0) = d ∧ adjustedUp d % 16 ≤ 9 := by
    unfold adjustedUp
    split <;> split <;> omega
  refine ⟨(bcdValid_onTop k _ r).2 ⟨valid, digits.2⟩, by split <;> decide, ?_⟩
  rw [bcdValue_onTop, bcdValue_succ, bcdValue_succ, Nat.pow_succ]
  linear_combination value + 10 ^ k * digits.1 + 10 ^ k * hd

/-- The loop of R283 adjusts every digit but the top one. -/
theorem addDigits_eq {a b cin : Nat} : ∀ (n k r cy : Nat), bcdValid (k + n) a = true → bcdValid (k + n) b = true →
    SumBelow a b cin k r cy →
    ∃ r' cy', SumBelow a b cin (k + n) r' cy' ∧
      addDigits a b (n + 1) k cy r = onTop (k + n) (digit (k + n) a + digit (k + n) b + cy') r'
  | 0, k, r, cy, _, _, h => ⟨r, cy, h, addDigit_eq a b k cy r⟩
  | n + 1, k, r, cy, ha, hb, h => by
    have next := h.digit (digit_le_nine ha (by omega)) (digit_le_nine hb (by omega)) rfl
    have place : k + (n + 1) = k + 1 + n := by omega
    rw [place] at ha hb ⊢
    simp only [addDigits, addDigit_eq, adjust_sum, carry_onTop]
    exact addDigits_eq n (k + 1) _ _ ha hb next

/-! One digit of the decimal difference (R284), for a complement `bc` of the operand `b`. -/

theorem subDigit_eq (a bc k cy m : Nat) : subDigit a bc k cy (m : Int) = onTop k (digit k a + digit k bc + cy) m := by
  have power : (16 : Int) ^ k = (16 ^ k : Nat) := by norm_cast
  rw [subDigit, and_nibble, and_nibble, Nat.shiftLeft_eq, Nat.pow_mul, onTop, power, ← Int.natCast_mod]
  push_cast
  ring

/-- The adjusted digit of a difference. -/
def adjustedDown (d : Nat) : Nat := if 16 ≤ d then d else d - 6

theorem carry_difference (k d m : Nat) : (16 : Int) ^ (k + 1) - 1 < onTop k d m ↔ 16 ≤ d := by
  have positive := Nat.pow_pos (n := k + 1) (show 0 < 16 by decide)
  have power : (16 : Int) ^ (k + 1) = (16 ^ (k + 1) : Nat) := by norm_cast
  rw [← carry_onTop k d m, power]
  omega

theorem adjust_difference (k m : Nat) {d : Nat} (hd : 6 ≤ d) :
    (if (onTop k d m : Int) ≤ 16 ^ (k + 1) - 1 then (onTop k d m : Int) - 6 * 16 ^ k else onTop k d m) =
      onTop k (adjustedDown d) m := by
  have limit : (onTop k d m : Int) ≤ 16 ^ (k + 1) - 1 ↔ ¬ 16 ≤ d := by rw [← carry_difference k d m, not_lt]
  simp only [limit, adjustedDown]
  by_cases h : 16 ≤ d
  · simp [h]
  · simp only [h, not_false_eq_true, if_true, if_false, onTop]
    push_cast [hd]
    ring

/-- The `k` low digits of the running value `m` and the borrow that `cy` denies are the decimal difference of those of the
operands. -/
structure DifferenceBelow (a b cin k m cy : Nat) : Prop where
  valid : bcdValid k m = true
  carry : cy ≤ 1
  value : bcdValue k m + bcdValue k b + 1 + 10 ^ k * cy = bcdValue k a + cin + 10 ^ k

theorem differenceBelow_zero {a b cin : Nat} (hc : cin ≤ 1) : DifferenceBelow a b cin 0 0 cin :=
  ⟨rfl, hc, by simp [bcdValue, Nat.add_comm]⟩

theorem DifferenceBelow.digit {a b cin k m cy d : Nat} (h : DifferenceBelow a b cin k m cy) (ha : digit k a ≤ 9)
    (hb : digit k b ≤ 9) (hd : d = digit k a + (15 - digit k b) + cy) :
    DifferenceBelow a b cin (k + 1) (onTop k (adjustedDown d) m) (if 16 ≤ adjustedDown d then 1 else 0) := by
  obtain ⟨valid, carry, value⟩ := h
  have digits : adjustedDown d % 16 + Machine.digit k b + 1 + 10 * (if 16 ≤ adjustedDown d then 1 else 0) =
      Machine.digit k a + cy + 10 ∧ adjustedDown d % 16 ≤ 9 := by
    by_cases h : 16 ≤ d
    · simp only [adjustedDown, if_pos h]
      omega
    · have small : ¬ 16 ≤ d - 6 := by omega
      simp only [adjustedDown, if_neg h, if_neg small]
      omega
  refine ⟨(bcdValid_onTop k _ m).2 ⟨valid, digits.2⟩, by split <;> decide, ?_⟩
  rw [bcdValue_onTop, bcdValue_succ, bcdValue_succ, Nat.pow_succ]
  linear_combination value + 10 ^ k * digits.1

/-- The loop of R284 adjusts every digit but the top one. -/
theorem subDigits_eq {a b bc cin : Nat} : ∀ (n k m cy : Nat), bcdValid (k + n) a = true → bcdValid (k + n) b = true →
    (∀ j, j ≤ k + n → digit j bc = 15 - digit j b) → DifferenceBelow a b cin k m cy →
    ∃ m' cy', DifferenceBelow a b cin (k + n) m' cy' ∧
      subDigits a bc (n + 1) k cy m = onTop (k + n) (digit (k + n) a + (15 - digit (k + n) b) + cy') m'
  | 0, k, m, cy, _, _, hbc, h => ⟨m, cy, h, by rw [subDigits, subDigit_eq, hbc k le_rfl]; rfl⟩
  | n + 1, k, m, cy, ha, hb, hbc, h => by
    have low := digit_le_nine hb (k := k) (by omega)
    have next := h.digit (digit_le_nine ha (by omega)) low rfl
    have here := hbc k (by omega)
    have place : k + (n + 1) = k + 1 + n := by omega
    rw [place] at ha hb hbc ⊢
    have adjust := adjust_difference k m (d := digit k a + (15 - digit k b) + cy) (by omega)
    simp only [subDigits, subDigit_eq, here, adjust, carry_difference]
    exact subDigits_eq n (k + 1) _ _ ha hb hbc next

/-! The digits of an operand at a width. -/

theorem bits_eq_digits (w : Width) : ∃ n, w.bits / 4 = n + 1 ∧ 2 ^ w.bits = 16 ^ (n + 1) := by
  cases w with
  | w8 => exact ⟨1, rfl, rfl⟩
  | w16 => exact ⟨3, rfl, rfl⟩

theorem digit_complement {w : Width} {y k : Nat} (hy : y < 2 ^ w.bits) (hk : k < w.bits / 4) :
    digit k (2 ^ w.bits - 1 - y) = 15 - digit k y := by
  unfold digit
  cases w <;> simp only [Width.bits] at hy hk ⊢ <;> interval_cases k <;> omega

/-! The two cores on valid operands: the adjustment after the loop is that of the top digit. -/

section Cores

open Claim (natAt)

variable {w : Width} {a b : Word} {cin : Bool} {n : Nat} (hn : w.bits / 4 = n + 1) (hbits : 2 ^ w.bits = 16 ^ (n + 1))
  (ha : bcdValid (n + 1) (natAt w a) = true) (hb : bcdValid (n + 1) (natAt w b) = true)
include hn hbits ha hb

theorem addCore_decimal :
    ∃ q cy, SumBelow (natAt w a) (natAt w b) cin.toNat (n + 1) q cy ∧
      (addCore w a b cin true).value.toNat = q % 16 ^ (n + 1) ∧ ((addCore w a b cin true).carry = true ↔ cy = 1) := by
  obtain ⟨lowA, topA⟩ := (bcdValid_succ n _).1 ha
  obtain ⟨lowB, topB⟩ := (bcdValid_succ n _).1 hb
  obtain ⟨r, cy, below, loop⟩ := addDigits_eq (a := natAt w a) (b := natAt w b) n 0 0 cin.toNat
    (by rwa [Nat.zero_add]) (by rwa [Nat.zero_add]) (sumBelow_zero (Bool.toNat_le cin))
  rw [Nat.zero_add] at below loop
  simp only [addCore, toNat_trunc, hn, loop, Nat.add_sub_cancel, Bool.true_and, decide_eq_true_eq, if_true, adjust_sum]
  refine ⟨_, _, below.digit topA topB rfl, ?value, ?carry⟩
  case value => rw [toNat_ofNat_mod, hbits]
  case carry => rw [hbits, carry_onTop]; simp

theorem subCore_decimal :
    ∃ q cy, DifferenceBelow (natAt w a) (natAt w b) cin.toNat (n + 1) q cy ∧
      (subCore w a b cin true).value.toNat = q % 16 ^ (n + 1) ∧ ((subCore w a b cin true).carry = true ↔ cy = 1) := by
  obtain ⟨lowA, topA⟩ := (bcdValid_succ n _).1 ha
  obtain ⟨lowB, topB⟩ := (bcdValid_succ n _).1 hb
  have complement (j : Nat) (hj : j ≤ 0 + n) : digit j (2 ^ w.bits - 1 - natAt w b) = 15 - digit j (natAt w b) :=
    digit_complement (natAt_lt w b) (by omega)
  obtain ⟨m, cy, below, loop⟩ := subDigits_eq (a := natAt w a) (b := natAt w b) n 0 0 cin.toNat
    (by rwa [Nat.zero_add]) (by rwa [Nat.zero_add]) complement (differenceBelow_zero (Bool.toNat_le cin))
  rw [Nat.zero_add] at below loop
  have power : (2 : Int) ^ w.bits = 16 ^ (n + 1) := by exact_mod_cast hbits
  have adjust := adjust_difference n m (d := digit n (natAt w a) + (15 - digit n (natAt w b)) + cy) (by omega)
  simp only [Int.natCast_zero] at loop
  simp only [subCore, toNat_trunc, natAt_not, hn, loop, Nat.add_sub_cancel, Bool.true_and, decide_eq_true_eq, if_true]
  simp only [power, adjust]
  refine ⟨_, _, below.digit topA topB rfl, ?value, ?carry⟩
  case value => rw [← power, toNat_ofInt_mod, hbits]
  case carry => rw [carry_difference]; simp

end Cores

end Sys2Proof.Machine

namespace Sys2Proof.Claim
open Sys2Proof.Machine

/-- Settles O21: the loop adds digit by digit, the last adjustment is one more digit. -/
theorem decimalAddIsBcdAddition : Obligations.DecimalAddIsBcdAddition := by
  intro w a b cin
  obtain ⟨n, hn, hbits⟩ := bits_eq_digits w
  rw [hn, hbits]
  intro k ha hb o r
  obtain ⟨q, cy, ⟨valid, carry, value⟩, result, carryOut⟩ := addCore_decimal (cin := cin) hn hbits ha hb
  have small := bcdValue_lt valid
  rw [result, carryOut, bcdValid_mod, bcdValue_mod]
  have hr : r = bcdValue k q + 10 ^ k * cy := value.symm
  refine ⟨valid, Nat.mod_lt _ (by positivity), ?_, ?_⟩
  · rw [hr, Nat.add_mul_mod_self_left, Nat.mod_eq_of_lt small]
  · obtain rfl | rfl : cy = 0 ∨ cy = 1 := by omega
    · simpa [hr] using small
    · simp [hr]

/-- Settles O22: the loop subtracts digit by digit, adding complements, the last adjustment is one more digit. -/
theorem decimalSubtractIsBcdSubtraction : Obligations.DecimalSubtractIsBcdSubtraction := by
  intro w a b cin
  obtain ⟨n, hn, hbits⟩ := bits_eq_digits w
  rw [hn, hbits]
  intro k ha hb o borrow
  obtain ⟨q, cy, ⟨valid, carry, sum⟩, result, carryOut⟩ := subCore_decimal (cin := cin) hn hbits ha hb
  have value : bcdValue k q + bcdValue k (natAt w b) + 1 + 10 ^ k * cy = bcdValue k (natAt w a) + cin.toNat + 10 ^ k := sum
  have small : bcdValue k q < 10 ^ k := bcdValue_lt valid
  have smallB : bcdValue k (natAt w b) < 10 ^ k := bcdValue_lt hb
  have hborrow : borrow + cin.toNat = 1 := by cases cin <;> rfl
  rw [result, carryOut, bcdValid_mod, bcdValue_mod]
  refine ⟨valid, Nat.mod_lt _ (by positivity), ?value, ?carry⟩
  case value =>
    have difference : bcdValue k (natAt w a) + 10 ^ k - bcdValue k (natAt w b) + 10 ^ k - borrow =
        bcdValue k q + 10 ^ k * (cy + 1) := by
      rw [Nat.mul_add]
      omega
    rw [difference, Nat.add_mul_mod_self_left, Nat.mod_eq_of_lt small]
  case carry =>
    obtain rfl | rfl : cy = 0 ∨ cy = 1 := by omega
    · omega
    · omega

end Sys2Proof.Claim
end

section
/-! SUPPORT and PROOFS. The fetch, the cost of a Step and the outside (30_encoding.md section 1, 70_reset_and_hazards.md
sections 3 and 4, 60_exceptions.md section 2): what a fetch from RAM or ROM reads, then O51, O56 and O60. -/

namespace Sys2Proof.Machine
open Claim (codeAt)

/-! The fetch (R121). -/

theorem Bus.read8_backed_eq {b : Bus} {a : Addr} (h : b.kindAt a ≠ .device) :
    b.read8 a = (b.mem.read a.toNat, { b with log := .read a (b.mem.read a.toNat) :: b.log }) := by
  unfold Bus.read8
  cases hk : b.kindAt a with
  | ram => rfl
  | rom => rfl
  | device => exact absurd hk h

theorem fetch8_backed {s : State} (h : s.backed (mkAddr s.pb s.pc) = true) :
    fetch8 s =
      let a := mkAddr s.pb s.pc
      (s.peek a, { s with pc := s.pc + 1, bus := { s.bus with log := .read a (s.peek a) :: s.bus.log } }) := by
  rw [State.backed_iff] at h
  simp only [fetch8, read8, Bus.read8_backed_eq h] <;> rfl

/-- The reads of the `n` bytes at PB:PC, in order. -/
def codeReads (s : State) (n : Nat) : List BusAccess :=
  (List.range n).map fun k =>
    let a := mkAddr s.pb (s.pc + BitVec.ofNat 16 k)
    BusAccess.read a (s.peek a)

/-- The state after `n` bytes are fetched from RAM or ROM. -/
def fetched (s : State) (n : Nat) : State :=
  { s with pc := s.pc + BitVec.ofNat 16 n, bus := { s.bus with log := (codeReads s n).reverse ++ s.bus.log } }

/-- Place `k + 1` after PC is place `k` after the next one. -/
theorem add_ofNat_succ (v : Word) (k : Nat) : v + BitVec.ofNat 16 (k + 1) = v + 1 + BitVec.ofNat 16 k := by
  rw [BitVec.ofNat_add, BitVec.add_comm (BitVec.ofNat 16 k), ← BitVec.add_assoc]
  rfl

/-- A value for each byte after PC: that of the first, then those after the next PC. -/
theorem map_range_succ {α : Type} (f : Word → α) (pc : Word) (n : Nat) :
    ((List.range (n + 1)).map fun k => f (pc + BitVec.ofNat 16 k)) =
      f pc :: (List.range n).map fun k => f (pc + 1 + BitVec.ofNat 16 k) := by
  rw [List.range_succ_eq_map, List.map_cons, List.map_map, BitVec.add_zero]
  exact congrArg (f pc :: ·) (List.map_congr_left fun k _ => congrArg f (add_ofNat_succ pc k))

theorem fetchBytes_backed : ∀ (n : Nat) (s : State),
    (∀ k, k < n → s.backed (mkAddr s.pb (s.pc + BitVec.ofNat 16 k)) = true) → fetchBytes n s = (codeAt s n, fetched s n)
  | 0, s, _ => by simp [fetchBytes, codeAt, fetched, codeReads]
  | n + 1, s, h => by
    have first : s.backed (mkAddr s.pb s.pc) = true := by simpa using h 0 n.succ_pos
    have rest (k : Nat) (hk : k < n) : s.backed (mkAddr s.pb (s.pc + 1 + BitVec.ofNat 16 k)) = true :=
      add_ofNat_succ s.pc k ▸ h (k + 1) (Nat.succ_lt_succ hk)
    have tail := fetchBytes_backed n (fetch8 s).2
    rw [fetch8_backed first] at tail
    rw [fetchBytes, fetch8_backed first]
    dsimp only at tail ⊢
    have bytes : codeAt s (n + 1) = _ := map_range_succ (fun o => s.peek (mkAddr s.pb o)) s.pc n
    have reads : codeReads s (n + 1) = _ :=
      map_range_succ (fun o => BusAccess.read (mkAddr s.pb o) (s.peek (mkAddr s.pb o))) s.pc n
    rw [tail rest, bytes, fetched, fetched, reads, add_ofNat_succ, List.reverse_cons, List.append_assoc]
    rfl

/-- A fetch from RAM or ROM of bytes that decode to an instruction is that instruction, and exactly those bytes are read. -/
theorem fetchInstr_backed {s : State} {n : Nat} {i : Instr}
    (h : ∀ k, k < n → s.backed (mkAddr s.pb (s.pc + BitVec.ofNat 16 k)) = true)
    (hdecode : decode s.widths (codeAt s n) = .ok (i, [])) :
    ∃ op, fetchInstr s = ⟨op, i, fetched s n⟩ ∧ mnemonic i = mnemonicOf op := by
  obtain ⟨op, os, code, length, build⟩ := decode_eq_ok hdecode
  obtain ⟨formatLength, encodes⟩ := opcodeEntry_agrees s.widths op
  obtain ⟨bytes, -⟩ := Maker.encode_build encodes length
  rw [List.append_nil] at code
  obtain rfl : n = os.length + 1 := by simpa [codeAt] using congrArg List.length code
  have fetches := fetchBytes_backed (os.length + 1) s h
  rw [fetchBytes, code] at fetches
  injection fetches with read state
  injection read with first operands
  refine ⟨op, ?_, build ▸ mnemonic_of_encode bytes⟩
  simp only [fetchInstr, first, formatLength, ← length, operands, state, build]

/-! The outside (R95, R505, R602). -/

/-- The inputs and the bus may move while memory stays in canonical form. -/
theorem Inv.outside {s : State} (h : Inv s) {b : Bus} (hwf : b.mem.wf = true) (nmi irq reset : Bool) (k : ResetKind) :
    Inv { s with bus := b, nmiPending := nmi, irqLine := irq, resetPending := reset, resetKind := k } :=
  ⟨hwf, h.narrowX, h.narrowY, h.emulationM, h.emulationX, h.emulationS, h.params⟩

/-- A restored save state has the registers of the saved core and memory and parameters of the core it goes into. -/
theorem Inv.restore {s t : State} (hs : Inv s) (ht : Inv t) : Inv (t.restore s.save) :=
  ⟨ht.memory, hs.narrowX, hs.narrowY, hs.emulationM, hs.emulationX, hs.emulationS, ht.params⟩

/-- A Step begins with an empty bus log. -/
theorem beginStep_bus {b b' : Bus} (hmem : b'.mem = b.mem) (hregions : b'.regions = b.regions)
    (hdevices : b'.devices = b.devices) : { b' with log := [] } = { b with log := [] } := by
  cases b
  cases b'
  simp_all

end Sys2Proof.Machine

namespace Sys2Proof.Claim
open Sys2Proof.Machine

/-- The opcodes of R512 are those of the five instructions it names. -/
theorem mem_pollDelay_iff (op : Byte) :
    mnemonicOf op ∈ ["CLI", "SEI", "PLP", "REP", "SEP"] ↔ pollDelayOps.contains op = true := by
  revert op
  decide +kernel

theorem finishInstr_eq {i : Instr} {op : Byte} (hop : mnemonic i = mnemonicOf op) (iBefore : Bool) (cost : Nat)
    (t : State) :
    finishInstr op iBefore cost t =
      { t with
        sp := if t.e then pair 0x01 (lo t.sp) else t.sp
        iPoll := if t.params.pollPoint = .beforeFinalFlagWrite ∧ mnemonic i ∈ ["CLI", "SEI", "PLP", "REP", "SEP"]
          then iBefore else t.p.i
        cost := cost } := by
  have poll : pollValue t.params.pollPoint op iBefore t.p.i =
      if t.params.pollPoint = .beforeFinalFlagWrite ∧ mnemonic i ∈ ["CLI", "SEI", "PLP", "REP", "SEP"]
        then iBefore else t.p.i := by
    simp only [hop, mem_pollDelay_iff]
    cases t.params.pollPoint <;> simp [pollValue]
  rw [← poll]
  rfl

/-- Settles O51: the Step is `executeOne`, whose fetch decodes the bytes at PB:PC and reads exactly them. -/
theorem stepRunsTheDecodedInstruction : Obligations.StepRunsTheDecodedInstruction := by
  intro s i n hreset hrun hnmi hirq hbacked hdecode f
  obtain ⟨op, fetch, hop⟩ := fetchInstr_backed (s := s.beginStep) hbacked hdecode
  have state : fetched s.beginStep n = f :=
    congrArg (fun log => { s with pc := s.pc + BitVec.ofNat 16 n, cost := 0, bus := { s.bus with log := log } })
      (List.append_nil (codeReads s n).reverse)
  rw [step_running hreset hrun, pollThenExecute_instruction (s := s.beginStep) hnmi hirq, executeOne, fetch, state]
  obtain ⟨t, hexec, -⟩ := exec_effect i f
  simp only [hexec, finishInstr_eq hop] <;> rfl

/-! The notes of the timing table in the words of R633. -/

theorem dl_cycles (s : State) : CycleAdd.dl.cycles s = if lo s.d = 0x00 then 0 else 1 := by
  simp [CycleAdd.cycles]

/-- An indexed read costs a cycle when the index is 16 bits wide or a page is crossed. -/
theorem pxDpIndY_cycles (d : Byte) (s : State) :
    (CycleAdd.pxDpIndY d).cycles s =
      if s.p.x = false ∨ pageOf (eaDpIndY d s).1.addr ≠ pageOf (mkAddr s.db (dpPointer d 0 s).1) then 1 else 0 := by
  simp [CycleAdd.cycles, crossesPage, eaDpIndY] <;> rfl

/-- A taken BNE costs a cycle, and one more to another page in emulation mode. -/
theorem bne_cycles (r : Byte) (s : State) :
    instrCost (.bne r) s =
      2 + (if s.p.z = false then 1 else 0) +
        (if s.p.z = false ∧ s.e = true ∧ hi (s.pc + r.signExtend 16) ≠ hi s.pc then 1 else 0) := by
  have row : instrCost (.bne r) s = 2 + (CycleAdd.bt .notEqual).cycles s + (CycleAdd.bp .notEqual r).cycles s := rfl
  simp [row, CycleAdd.cycles, Cond.holds, relTarget, sext16, and_assoc]

/-- Settles O56: the rows of the timing table, note by note. -/
theorem workedCycleCosts : Obligations.WorkedCycleCosts := by
  intro s v d r t u aligned crosses newPage
  have m1 : CycleAdd.m1.cycles s = if s.p.m then 0 else 1 := rfl
  have ne : CycleAdd.ne.cycles s = if s.e then 0 else 1 := rfl
  have ldaImm : instrCost (.ldaImm v) s = 2 + CycleAdd.m1.cycles s := rfl
  have ldaDpIndY : instrCost (.ldaDpIndY d) s =
    5 + CycleAdd.m1.cycles s + CycleAdd.dl.cycles s + (CycleAdd.pxDpIndY d).cycles s := rfl
  have adcDp : instrCost (.adcDp d) s = 3 + CycleAdd.m1.cycles s + CycleAdd.dl.cycles s := rfl
  have ldaDpX : instrCost (.ldaDpX d) s = 4 + CycleAdd.m1.cycles s + CycleAdd.dl.cycles s := rfl
  have brk : instrCost (.brk r) s = 7 + CycleAdd.ne.cycles s := rfl
  have rti : instrCost .rti s = 6 + CycleAdd.ne.cycles s := rfl
  refine ⟨?ldaImm, fun hm ha => ⟨fun h => ?slow, fun hx hc => ?fast⟩, fun hz => ⟨fun h => ?newPage, fun h => ?samePage⟩,
    fun hz => ?untaken, fun hm => ⟨fun h => ?adc, fun h => ?adcUnaligned⟩, fun hm => ⟨fun h => ?lda, fun h => ?ldaUnaligned⟩,
    ?brk, ?rti, rfl⟩
  case ldaImm =>
    rw [ldaImm, m1]
    cases s.p.m <;> rfl
  case slow => rw [ldaDpIndY, m1, dl_cycles, pxDpIndY_cycles, if_pos hm, if_neg ha, if_pos h]
  case fast =>
    have noExtra : ¬ (s.p.x = false ∨ crosses) := not_or.2 ⟨by simp [hx], hc⟩
    rw [ldaDpIndY, m1, dl_cycles, pxDpIndY_cycles, if_pos hm, if_neg ha, if_neg noExtra]
  case newPage => rw [bne_cycles, if_pos hz, if_pos ⟨hz, h⟩]
  case samePage => rw [bne_cycles, if_pos hz, if_neg fun taken => h taken.2]
  case untaken => simp [bne_cycles, hz]
  case adc => rw [adcDp, m1, dl_cycles, if_neg (by simp [hm]), if_pos h]
  case adcUnaligned => rw [adcDp, m1, dl_cycles, if_neg (by simp [hm]), if_neg h]
  case lda => rw [ldaDpX, m1, dl_cycles, if_neg (by simp [hm]), if_pos h]
  case ldaUnaligned => rw [ldaDpX, m1, dl_cycles, if_neg (by simp [hm]), if_neg h]
  case brk =>
    rw [brk, ne]
    cases s.e <;> rfl
  case rti =>
    rw [rti, ne]
    cases s.e <;> rfl

/-- Settles O60: the core's inputs and the other agents of the bus move no register, and a Step begins by emptying the log, so
that the buses of the last clause agree. -/
theorem outsideInputsKeepTheInvariant : Obligations.OutsideInputsKeepTheInvariant := by
  intro s b k a v cells
  refine ⟨fun h => ⟨?nmi, ?irq, ?reset, ?write, ?transfer, fun n => ?devices⟩, fun c hc => ?other, rfl, fun _ => rfl,
    fun t => ⟨rfl, rfl, fun hs ht => ?restored, fun hmem hregions hdevices hirq hparams hkind => ?continues⟩⟩
  case nmi => exact h.outside h.memory _ _ _ _
  case irq => exact h.outside h.memory _ _ _ _
  case reset => exact h.outside h.memory _ _ _ _
  case write => exact h.outside (Memory.wf_write s.bus.mem a v h.memory) _ _ _ _
  case transfer => exact h.outside (agentCells_wf s.bus.regions cells s.bus.mem h.memory) _ _ _ _
  case devices => exact h.outside (b := { s.bus with devices := n }) h.memory _ _ _ _
  case other => exact Memory.read_write_other s.bus.mem a.toNat c.toNat v ((addr_ne_iff c a).1 hc)
  case restored => exact hs.restore ht
  case continues =>
    have begins : (t.restore s.save).beginStep = s.beginStep := by
      simp only [State.restore, State.save, State.beginStep, beginStep_bus hmem hregions hdevices, hirq, hparams, hkind]
    exact congrArg stepBody begins

end Sys2Proof.Claim
end
